-- ==== Sys2Proof/Word.lean ====
section
/-! DEFINITION. The words that cross the block's boundary (00_scope.md R8, 20_memory.md R38). -/

namespace Sys2Proof

/-- The instruction word: 16 bits, bit 15 most significant (R8, R39, R50). -/
abbrev Word := BitVec 16

/-- One byte: the offset or immediate field `w[7:0]` (R54), a byte of memory (R40), an ASCII character (R26). -/
abbrev Byte := BitVec 8

/-- A four-bit field: the condition mask, the group and the sub-group (R8). -/
abbrev Nibble := BitVec 4

end Sys2Proof
end

