-- ==== Sys2Proof/Machine/Values.lean ====
section
/-! DEFINITION. The value types of 10_state.md section 2 and the outcomes of 00_scope.md R14: condition codes,
variants (as terms that may still be ill formed), error kinds and the outcome of an operation. -/

namespace Sys2Proof

/-- The closed set of 16 condition codes (10_state.md R23), in mask order.
PRESUMED: the names other than EQ, GE, AL and NV are the spec's decision D6, from general knowledge (log entry 9). -/
inductive Cond where
  | eq | ne | cs | cc | mi | pl | vs | vc | hi | ls | ge | lt | gt | le
  /-- The "always" value, mask 14. -/
  | al
  /-- The "extension marker", mask 15. -/
  | nv
  deriving DecidableEq, Repr

/-- A term of the variant type (10_state.md R24) before any check: its fields are unbounded integers and its
condition is any of the 16, so that the ill-formed inputs of 42_encode.md R104 can be written. -/
inductive VariantTerm where
  | condBranch (cond : Cond) (offset : Int)
  | softwareInterrupt (imm : Int)
  | undefinedPermanent
  | undefinedReserved
  | unpredictable
  deriving DecidableEq, Repr

/-- Where the decoder found no classification rule (60_exceptions.md R113, R115). -/
inductive Level where
  /-- The top-level group `w[15:12]`. -/
  | top
  /-- The sub-group `w[11:8]` of group `0b1011`. -/
  | misc
  deriving DecidableEq, Repr

/-- What was given to the encoder when it found no well-formed variant (60_exceptions.md R119). -/
inductive EncInput where
  /-- A term given to the function `encode`. -/
  | term (v : VariantTerm)
  /-- The values on the ports `enc_tag`, `enc_cond` and `enc_field` (10_state.md R28). -/
  | ports (tag : BitVec 3) (cond : Nibble) (field : Byte)
  deriving DecidableEq, Repr

/-- The error kinds, each with the information it records (60_exceptions.md R113). -/
inductive Err where
  /-- `from_mask` of a mask of 16 or more (R117). -/
  | maskOutOfRange (m : Nat)
  /-- `from_mnemonic` of a string that is none of the 17 accepted ones (R118). -/
  | unrecognizedMnemonic (s : List Byte)
  /-- `decode` of a word in a group or sub-group without a classification rule (R115). -/
  | unclassified (level : Level) (w : Word)
  /-- `encode` of `Unpredictable` (R116). -/
  | unencodable (v : VariantTerm)
  /-- `encode` of an input that is no well-formed variant (R119). -/
  | illFormedVariant (x : EncInput)
  deriving DecidableEq, Repr

/-- The outcome of an operation: exactly one of a value and an error (00_scope.md R14, 60_exceptions.md R110). -/
inductive Result (α : Type) where
  | ok (v : α)
  | raise (e : Err)
  deriving DecidableEq, Repr

end Sys2Proof
end

