-- ==== Sys2Proof/Config.lean ====
section
/-! DEFINITION. What the spec decides for this block where its source leaves the value open (00_scope.md R9).
These are constants of the block, fixed at its construction (70_reset_and_hazards.md R132). No free value is needed:
the spec leaves no result of any operation undefined. -/

namespace Sys2Proof

/-- `CANON_UNDEF_RESERVED`, the word that encodes `UndefinedReserved` (42_encode.md R98).
DESIGN CHOICE of the spec (D4, log entry 8); unsafe for a claim that names the word: `encodeWith` takes it as an argument. -/
def Config.canonUndefReserved : Word := 0xB100#16

/-- `CANON_UNDEF_PERMANENT`, the word that encodes `UndefinedPermanent` (42_encode.md R102).
DESIGN CHOICE of the spec (D5, log entry 8); unsafe for a claim that names the word: `encodeWith` takes it as an argument. -/
def Config.canonUndefPermanent : Word := 0xDE00#16

end Sys2Proof
end

