-- ==== Sys2Proof/Machine/Conditions.lean ====
section
/-! DEFINITION. The condition-code unit, CCU (40_condition_codes.md): the 16-row table and its five lookups. -/

namespace Sys2Proof

/-- `to_mask(c)` (R74): the mask of the condition, the table row of 10_state.md R23. -/
def toMask : Cond → Nibble
  | .eq => 0#4
  | .ne => 1#4
  | .cs => 2#4
  | .cc => 3#4
  | .mi => 4#4
  | .pl => 5#4
  | .vs => 6#4
  | .vc => 7#4
  | .hi => 8#4
  | .ls => 9#4
  | .ge => 10#4
  | .lt => 11#4
  | .gt => 12#4
  | .le => 13#4
  | .al => 14#4
  | .nv => 15#4

/-- The condition whose mask is `m`: table row `m` of 10_state.md R23. -/
def condOfMask (m : Nibble) : Cond :=
  match m.toNat with
  | 0 => .eq
  | 1 => .ne
  | 2 => .cs
  | 3 => .cc
  | 4 => .mi
  | 5 => .pl
  | 6 => .vs
  | 7 => .vc
  | 8 => .hi
  | 9 => .ls
  | 10 => .ge
  | 11 => .lt
  | 12 => .gt
  | 13 => .le
  | 14 => .al
  | _ => .nv

/-- `from_mask(m)` (R72, R73): a mask of 16 or more is rejected, never clamped. The argument is a natural number of
unbounded width (D8, log entry 15). -/
def fromMask (m : Nat) : Result Cond :=
  if 16 ≤ m then .raise (.maskOutOfRange m) else .ok (condOfMask (BitVec.ofNat 4 m))

/-- `all()` (R81): the 16 conditions in ascending mask order. -/
def allConds : List Cond :=
  [.eq, .ne, .cs, .cc, .mi, .pl, .vs, .vc, .hi, .ls, .ge, .lt, .gt, .le, .al, .nv]

/-- The two ASCII bytes of a two-letter mnemonic (10_state.md R26). -/
def ascii2 (a b : Char) : List Byte := [BitVec.ofNat 8 a.toNat, BitVec.ofNat 8 b.toNat]

/-- `to_mnemonic(c)` (R78): the canonical column of R76, the empty string for NV (R69).
PRESUMED: the strings other than `ge`, `cs` and `cc` are the spec's decision D6, from general knowledge (log entry 9). -/
def toMnemonic : Cond → List Byte
  | .eq => ascii2 'e' 'q'
  | .ne => ascii2 'n' 'e'
  | .cs => ascii2 'c' 's'
  | .cc => ascii2 'c' 'c'
  | .mi => ascii2 'm' 'i'
  | .pl => ascii2 'p' 'l'
  | .vs => ascii2 'v' 's'
  | .vc => ascii2 'v' 'c'
  | .hi => ascii2 'h' 'i'
  | .ls => ascii2 'l' 's'
  | .ge => ascii2 'g' 'e'
  | .lt => ascii2 'l' 't'
  | .gt => ascii2 'g' 't'
  | .le => ascii2 'l' 'e'
  | .al => ascii2 'a' 'l'
  | .nv => []

/-- `ACCEPTED` (R77): the 17 strings of R76 with their conditions, the second spellings `hs` and `lo` among them. -/
def acceptedMnemonics : List (List Byte × Cond) :=
  [(ascii2 'e' 'q', .eq), (ascii2 'n' 'e', .ne), (ascii2 'c' 's', .cs), (ascii2 'h' 's', .cs),
   (ascii2 'c' 'c', .cc), (ascii2 'l' 'o', .cc), (ascii2 'm' 'i', .mi), (ascii2 'p' 'l', .pl),
   (ascii2 'v' 's', .vs), (ascii2 'v' 'c', .vc), (ascii2 'h' 'i', .hi), (ascii2 'l' 's', .ls),
   (ascii2 'g' 'e', .ge), (ascii2 'l' 't', .lt), (ascii2 'g' 't', .gt), (ascii2 'l' 'e', .le),
   (ascii2 'a' 'l', .al)]

/-- `from_mnemonic(s)` (R77, R79): exact equality of bytes and length with an accepted string (D7, log entry 10). -/
def fromMnemonic (s : List Byte) : Result Cond :=
  match acceptedMnemonics.lookup s with
  | some c => .ok c
  | none => .raise (.unrecognizedMnemonic s)

end Sys2Proof
end

