-- ==== Sys2Proof/Syntax.lean ====
section
/-! DEFINITION. The instructions: one constructor per row of opcode_table.json (30_encoding.md R58). A row's operand is
the bits of its word that the row's match and mask leave free: the offset byte, the immediate byte, or the bits that the
decoder does not inspect (kept, so that a word and its row determine each other; log entry 6). Every operand has exactly
the width of its field, so no operand is ever out of range (10_state.md R25). -/

namespace Sys2Proof

inductive Instr where
  /-- `CondBranch[EQ]`: `0xD000`/`0xFF00`, bits 7..0 the offset (R54, R87). -/
  | condBranchEQ (offset : BitVec 8)
  /-- `CondBranch[NE]`: `0xD100`/`0xFF00`, bits 7..0 the offset (R54, R87). -/
  | condBranchNE (offset : BitVec 8)
  /-- `CondBranch[CS]`: `0xD200`/`0xFF00`, bits 7..0 the offset (R54, R87). -/
  | condBranchCS (offset : BitVec 8)
  /-- `CondBranch[CC]`: `0xD300`/`0xFF00`, bits 7..0 the offset (R54, R87). -/
  | condBranchCC (offset : BitVec 8)
  /-- `CondBranch[MI]`: `0xD400`/`0xFF00`, bits 7..0 the offset (R54, R87). -/
  | condBranchMI (offset : BitVec 8)
  /-- `CondBranch[PL]`: `0xD500`/`0xFF00`, bits 7..0 the offset (R54, R87). -/
  | condBranchPL (offset : BitVec 8)
  /-- `CondBranch[VS]`: `0xD600`/`0xFF00`, bits 7..0 the offset (R54, R87). -/
  | condBranchVS (offset : BitVec 8)
  /-- `CondBranch[VC]`: `0xD700`/`0xFF00`, bits 7..0 the offset (R54, R87). -/
  | condBranchVC (offset : BitVec 8)
  /-- `CondBranch[HI]`: `0xD800`/`0xFF00`, bits 7..0 the offset (R54, R87). -/
  | condBranchHI (offset : BitVec 8)
  /-- `CondBranch[LS]`: `0xD900`/`0xFF00`, bits 7..0 the offset (R54, R87). -/
  | condBranchLS (offset : BitVec 8)
  /-- `CondBranch[GE]`: `0xDA00`/`0xFF00`, bits 7..0 the offset (R54, R87). -/
  | condBranchGE (offset : BitVec 8)
  /-- `CondBranch[LT]`: `0xDB00`/`0xFF00`, bits 7..0 the offset (R54, R87). -/
  | condBranchLT (offset : BitVec 8)
  /-- `CondBranch[GT]`: `0xDC00`/`0xFF00`, bits 7..0 the offset (R54, R87). -/
  | condBranchGT (offset : BitVec 8)
  /-- `CondBranch[LE]`: `0xDD00`/`0xFF00`, bits 7..0 the offset (R54, R87). -/
  | condBranchLE (offset : BitVec 8)
  /-- `UndefinedPermanent`: `0xDE00`/`0xFF00`, bits 7..0 not inspected (R60, R90). -/
  | undefinedPermanent (low : BitVec 8)
  /-- `SoftwareInterrupt`: `0xDF00`/`0xFF00`, bits 7..0 the immediate (R57, R88). -/
  | softwareInterrupt (imm : BitVec 8)
  /-- `UndefinedReserved[sub=0001]`: `0xB100`/`0xFF00`, bits 7..0 not inspected (R61, R91). -/
  | undefinedReserved0001 (low : BitVec 8)
  /-- `UndefinedReserved[sub=0011]`: `0xB300`/`0xFF00`, bits 7..0 not inspected (R61, R91). -/
  | undefinedReserved0011 (low : BitVec 8)
  /-- `UndefinedReserved[sub=0111]`: `0xB700`/`0xFF00`, bits 7..0 not inspected (R61, R91). -/
  | undefinedReserved0111 (low : BitVec 8)
  /-- `UndefinedReserved[sub=1000]`: `0xB800`/`0xFF00`, bits 7..0 not inspected (R61, R91). -/
  | undefinedReserved1000 (low : BitVec 8)
  /-- `UndefinedReserved[sub=1001]`: `0xB900`/`0xFF00`, bits 7..0 not inspected (R61, R91). -/
  | undefinedReserved1001 (low : BitVec 8)
  /-- `UndefinedReserved[sub=1011]`: `0xBB00`/`0xFF00`, bits 7..0 not inspected (R61, R91). -/
  | undefinedReserved1011 (low : BitVec 8)
  /-- `Unpredictable`: No word decodes to it and it has no encoding (R63, R89, R103). -/
  | unpredictable
  /-- `unclassified_group_0000`: `0x0000`/`0xF000`, no classification rule (R62, R84). -/
  | unclassifiedGroup0000 (low : BitVec 12)
  /-- `unclassified_group_0001`: `0x1000`/`0xF000`, no classification rule (R62, R84). -/
  | unclassifiedGroup0001 (low : BitVec 12)
  /-- `unclassified_group_0010`: `0x2000`/`0xF000`, no classification rule (R62, R84). -/
  | unclassifiedGroup0010 (low : BitVec 12)
  /-- `unclassified_group_0011`: `0x3000`/`0xF000`, no classification rule (R62, R84). -/
  | unclassifiedGroup0011 (low : BitVec 12)
  /-- `unclassified_group_0100`: `0x4000`/`0xF000`, no classification rule (R62, R84). -/
  | unclassifiedGroup0100 (low : BitVec 12)
  /-- `unclassified_group_0101`: `0x5000`/`0xF000`, no classification rule (R62, R84). -/
  | unclassifiedGroup0101 (low : BitVec 12)
  /-- `unclassified_group_0110`: `0x6000`/`0xF000`, no classification rule (R62, R84). -/
  | unclassifiedGroup0110 (low : BitVec 12)
  /-- `unclassified_group_0111`: `0x7000`/`0xF000`, no classification rule (R62, R84). -/
  | unclassifiedGroup0111 (low : BitVec 12)
  /-- `unclassified_group_1000`: `0x8000`/`0xF000`, no classification rule (R62, R84). -/
  | unclassifiedGroup1000 (low : BitVec 12)
  /-- `unclassified_group_1001`: `0x9000`/`0xF000`, no classification rule (R62, R84). -/
  | unclassifiedGroup1001 (low : BitVec 12)
  /-- `unclassified_group_1010`: `0xA000`/`0xF000`, no classification rule (R62, R84). -/
  | unclassifiedGroup1010 (low : BitVec 12)
  /-- `unclassified_group_1100`: `0xC000`/`0xF000`, no classification rule (R62, R84). -/
  | unclassifiedGroup1100 (low : BitVec 12)
  /-- `unclassified_group_1110`: `0xE000`/`0xF000`, no classification rule (R62, R84). -/
  | unclassifiedGroup1110 (low : BitVec 12)
  /-- `unclassified_group_1111`: `0xF000`/`0xF000`, no classification rule (R62, R84). -/
  | unclassifiedGroup1111 (low : BitVec 12)
  /-- `unclassified_misc_sub-group_0000`: `0xB000`/`0xFF00`, no classification rule (R62, R85). -/
  | unclassifiedMisc0000 (low : BitVec 8)
  /-- `unclassified_misc_sub-group_0010`: `0xB200`/`0xFF00`, no classification rule (R62, R85). -/
  | unclassifiedMisc0010 (low : BitVec 8)
  /-- `unclassified_misc_sub-group_0100`: `0xB400`/`0xFF00`, no classification rule (R62, R85). -/
  | unclassifiedMisc0100 (low : BitVec 8)
  /-- `unclassified_misc_sub-group_0101`: `0xB500`/`0xFF00`, no classification rule (R62, R85). -/
  | unclassifiedMisc0101 (low : BitVec 8)
  /-- `unclassified_misc_sub-group_0110`: `0xB600`/`0xFF00`, no classification rule (R62, R85). -/
  | unclassifiedMisc0110 (low : BitVec 8)
  /-- `unclassified_misc_sub-group_1010`: `0xBA00`/`0xFF00`, no classification rule (R62, R85). -/
  | unclassifiedMisc1010 (low : BitVec 8)
  /-- `unclassified_misc_sub-group_1100`: `0xBC00`/`0xFF00`, no classification rule (R62, R85). -/
  | unclassifiedMisc1100 (low : BitVec 8)
  /-- `unclassified_misc_sub-group_1101`: `0xBD00`/`0xFF00`, no classification rule (R62, R85). -/
  | unclassifiedMisc1101 (low : BitVec 8)
  /-- `unclassified_misc_sub-group_1110`: `0xBE00`/`0xFF00`, no classification rule (R62, R85). -/
  | unclassifiedMisc1110 (low : BitVec 8)
  /-- `unclassified_misc_sub-group_1111`: `0xBF00`/`0xFF00`, no classification rule (R62, R85). -/
  | unclassifiedMisc1111 (low : BitVec 8)
  deriving DecidableEq, Repr

end Sys2Proof
end

