-- ==== Sys2Proof/WellFormed.lean ====
section
/-! DEFINITION. Well-formedness: of a variant term (10_state.md R25), the type of well-formed variants, and which
instructions some word carries (30_encoding.md R63). -/

namespace Sys2Proof

/-- One of the 14 "real" conditions: neither AL nor NV (10_state.md R24, R25). -/
def Cond.isReal : Cond → Bool
  | .eq | .ne | .cs | .cc | .mi | .pl | .vs | .vc | .hi | .ls | .ge | .lt | .gt | .le => true
  | .al | .nv => false

/-- A variant term is well formed (10_state.md R25). -/
def VariantTerm.wellFormed : VariantTerm → Bool
  | .condBranch c o => c.isReal && decide (-128 ≤ o) && decide (o ≤ 127)
  | .softwareInterrupt i => decide (0 ≤ i) && decide (i ≤ 255)
  | .undefinedPermanent => true
  | .undefinedReserved => true
  | .unpredictable => true

/-- The variants: an ill-formed one cannot be built (10_state.md R24, R25). Equality is structural, with the offset
compared as the signed integer (00_scope.md R15). -/
abbrev Variant := { v : VariantTerm // v.wellFormed = true }

/-- Some word carries the instruction. Its operands have the exact width of their fields, so the one instruction without
a word is `Unpredictable`, which no word decodes to (30_encoding.md R63). -/
def Instr.wellFormed : Instr → Bool
  | .condBranchEQ _ | .condBranchNE _ | .condBranchCS _ | .condBranchCC _ | .condBranchMI _ | .condBranchPL _
  | .condBranchVS _ | .condBranchVC _ | .condBranchHI _ | .condBranchLS _ | .condBranchGE _ | .condBranchLT _
  | .condBranchGT _ | .condBranchLE _ | .undefinedPermanent _ | .softwareInterrupt _
  | .undefinedReserved0001 _ | .undefinedReserved0011 _ | .undefinedReserved0111 _
  | .undefinedReserved1000 _ | .undefinedReserved1001 _ | .undefinedReserved1011 _ => true
  | .unpredictable => false
  | .unclassifiedGroup0000 _ | .unclassifiedGroup0001 _ | .unclassifiedGroup0010 _ | .unclassifiedGroup0011 _
  | .unclassifiedGroup0100 _ | .unclassifiedGroup0101 _ | .unclassifiedGroup0110 _ | .unclassifiedGroup0111 _
  | .unclassifiedGroup1000 _ | .unclassifiedGroup1001 _ | .unclassifiedGroup1010 _ | .unclassifiedGroup1100 _
  | .unclassifiedGroup1110 _ | .unclassifiedGroup1111 _ => true
  | .unclassifiedMisc0000 _ | .unclassifiedMisc0010 _ | .unclassifiedMisc0100 _ | .unclassifiedMisc0101 _
  | .unclassifiedMisc0110 _ | .unclassifiedMisc1010 _ | .unclassifiedMisc1100 _ | .unclassifiedMisc1101 _
  | .unclassifiedMisc1110 _ | .unclassifiedMisc1111 _ => true

end Sys2Proof
end

