-- ==== Sys2Proof/Machine/Operands.lean ====
section
/-! DEFINITION. The fields of a word and the operand forms (00_scope.md R10, R13; 30_encoding.md R51 to R57), the byte
order in which a caller forms a word (20_memory.md R40), and the well-formed variants the decoder builds from them. -/

namespace Sys2Proof

/-- `w[15:12]`, the top-level dispatch field (R51). -/
def group (w : Word) : Nibble := w.extractLsb' 12 4

/-- `w[11:8]`, the sub-group of MISC and the condition mask of CB/SWI (R52, R54). -/
def subGroup (w : Word) : Nibble := w.extractLsb' 8 4

/-- `w[7:0]`, the byte that holds an offset or an immediate (R54). -/
def lowByte (w : Word) : Byte := w.extractLsb' 0 8

/-- `w[15:8]`. -/
def highByte (w : Word) : Byte := w.extractLsb' 8 8

/-- `w[11:0]`, the bits that an unclassified top-level group leaves uninspected (R51). -/
def lowTwelve (w : Word) : BitVec 12 := w.extractLsb' 0 12

/-- `sext_8(b)` (R13): the byte as a two's-complement signed integer. -/
def sext8 (b : Byte) : Int := if b.toNat < 128 then (b.toNat : Int) else (b.toNat : Int) - 256

/-- `twos_8(i)` (R13): the byte `i mod 256`. -/
def twos8 (i : Int) : Byte := BitVec.ofNat 8 (i % 256).toNat

/-- `zext(b)` of a byte (R13), as the integer an immediate is (R57). -/
def zext8 (b : Byte) : Int := (b.toNat : Int)

/-- A word from its high and low byte (R10). -/
def wordOf (hi lo : Byte) : Word := (hi.setWidth 16 <<< 8) ||| lo.setWidth 16

/-- A word of a top-level group from the group and `w[11:0]` (R10). -/
def groupWordOf (g : Nibble) (low : BitVec 12) : Word := (g.setWidth 16 <<< 12) ||| low.setWidth 16

/-- The word a caller forms from the byte `b0` at the lower address and `b1` at the next: `b0 | (b1 << 8)` (R40). -/
def wordOfBytes (b0 b1 : Byte) : Word := b0.setWidth 16 ||| (b1.setWidth 16 <<< 8)

/-- The bytes a caller writes for a word, the one at the lower address first (R40). -/
def bytesOfWord (w : Word) : List Byte := [lowByte w, highByte w]

theorem sext8_wellFormed (b : Byte) : -128 ≤ sext8 b ∧ sext8 b ≤ 127 := by
  have h := b.isLt
  unfold sext8
  split <;> omega

/-- `CondBranch(c, sext_8(b))` of a real condition (R56, 41_decode.md R87). -/
def mkCondBranch (c : Cond) (hc : c.isReal = true) (b : Byte) : Variant :=
  ⟨.condBranch c (sext8 b), by
    simp [VariantTerm.wellFormed, hc, (sext8_wellFormed b).1, (sext8_wellFormed b).2]⟩

/-- `SoftwareInterrupt(zext(b))` (R57, 41_decode.md R88). -/
def mkSoftwareInterrupt (b : Byte) : Variant :=
  ⟨.softwareInterrupt (zext8 b), by
    have h := b.isLt
    have h0 : 0 ≤ zext8 b := by unfold zext8; omega
    have h1 : zext8 b ≤ 255 := by unfold zext8; omega
    simp [VariantTerm.wellFormed, h0, h1]⟩

/-- The variant `UndefinedPermanent` (41_decode.md R90). -/
def mkUndefinedPermanent : Variant := ⟨.undefinedPermanent, rfl⟩

/-- The variant `UndefinedReserved` (41_decode.md R91). -/
def mkUndefinedReserved : Variant := ⟨.undefinedReserved, rfl⟩

theorem isReal_of_ne {c : Cond} (ha : c ≠ .al) (hn : c ≠ .nv) : c.isReal = true := by
  cases c <;> first | rfl | exact absurd rfl ha | exact absurd rfl hn

end Sys2Proof
end

