-- ==== Sys2Proof/Decode.lean ====
section
/-! DEFINITION. From words to instructions and variants, and back.

1. `decodeInstr`: which row of opcode_table.json a word lies in, in the dispatch order of 41_decode.md R92; total on words.
   `decodeBytes` reads it from bytes and rejects, by name, what is no whole halfword.
2. `decode`: the decoder DEC, 41_decode.md R83, from a word to a variant or an error.
3. `encodeInstr`: the word of an instruction (the inverse of 1).
4. `encode`: the encoder ENC, 42_encode.md R97, from a variant term to a word or an error; `encodePorts` is its port form.
5. `opcodeRows`: the match and mask of every row with a word (30_encoding.md R58). -/

namespace Sys2Proof

/-- The row of a word of group `0b1011`, by its sub-group (R53). -/
def decodeMiscRow (sub : Nibble) (low : Byte) : Instr :=
  match sub.toNat with
  | 0 => .unclassifiedMisc0000 low
  | 1 => .undefinedReserved0001 low
  | 2 => .unclassifiedMisc0010 low
  | 3 => .undefinedReserved0011 low
  | 4 => .unclassifiedMisc0100 low
  | 5 => .unclassifiedMisc0101 low
  | 6 => .unclassifiedMisc0110 low
  | 7 => .undefinedReserved0111 low
  | 8 => .undefinedReserved1000 low
  | 9 => .undefinedReserved1001 low
  | 10 => .unclassifiedMisc1010 low
  | 11 => .undefinedReserved1011 low
  | 12 => .unclassifiedMisc1100 low
  | 13 => .unclassifiedMisc1101 low
  | 14 => .unclassifiedMisc1110 low
  | _ => .unclassifiedMisc1111 low

/-- The row of a word of group `0b1101`, by its condition mask (R54, R86). -/
def decodeCbSwiRow (mask : Nibble) (low : Byte) : Instr :=
  match mask.toNat with
  | 0 => .condBranchEQ low
  | 1 => .condBranchNE low
  | 2 => .condBranchCS low
  | 3 => .condBranchCC low
  | 4 => .condBranchMI low
  | 5 => .condBranchPL low
  | 6 => .condBranchVS low
  | 7 => .condBranchVC low
  | 8 => .condBranchHI low
  | 9 => .condBranchLS low
  | 10 => .condBranchGE low
  | 11 => .condBranchLT low
  | 12 => .condBranchGT low
  | 13 => .condBranchLE low
  | 14 => .undefinedPermanent low
  | _ => .softwareInterrupt low

/-- The row of any word, by its top-level group first (R51, R92). -/
def decodeInstr (w : Word) : Instr :=
  match (group w).toNat with
  | 0 => .unclassifiedGroup0000 (lowTwelve w)
  | 1 => .unclassifiedGroup0001 (lowTwelve w)
  | 2 => .unclassifiedGroup0010 (lowTwelve w)
  | 3 => .unclassifiedGroup0011 (lowTwelve w)
  | 4 => .unclassifiedGroup0100 (lowTwelve w)
  | 5 => .unclassifiedGroup0101 (lowTwelve w)
  | 6 => .unclassifiedGroup0110 (lowTwelve w)
  | 7 => .unclassifiedGroup0111 (lowTwelve w)
  | 8 => .unclassifiedGroup1000 (lowTwelve w)
  | 9 => .unclassifiedGroup1001 (lowTwelve w)
  | 10 => .unclassifiedGroup1010 (lowTwelve w)
  | 11 => decodeMiscRow (subGroup w) (lowByte w)
  | 12 => .unclassifiedGroup1100 (lowTwelve w)
  | 13 => decodeCbSwiRow (subGroup w) (lowByte w)
  | 14 => .unclassifiedGroup1110 (lowTwelve w)
  | _ => .unclassifiedGroup1111 (lowTwelve w)

/-- Why a byte sequence gives no instruction. -/
inductive BytesRejected where
  /-- Fewer than two bytes: an instruction is one whole halfword (R50). -/
  | incompleteHalfword
  deriving DecidableEq, Repr

/-- The instruction at the head of a byte stream and the bytes after it; the halfword is little-endian (R40). -/
def decodeBytes : List Byte → Except BytesRejected (Instr × List Byte)
  | b0 :: b1 :: rest => .ok (decodeInstr (wordOfBytes b0 b1), rest)
  | [_] => .error .incompleteHalfword
  | [] => .error .incompleteHalfword

/-- The word whose bits are `w`, as opcode_table.json numbers them; every bit above the row's `nbits` is 0. -/
def tableWord (nbits w : Nat) : Word := BitVec.ofNat 16 (w % 2 ^ nbits)

/-- The instruction the decoder reads from the bytes of such a word. -/
def decodeTableWord (nbits w : Nat) : Option Instr :=
  match decodeBytes (bytesOfWord (tableWord nbits w)) with
  | .ok (i, _) => some i
  | .error _ => none

/-- `sub in {0b0001, 0b0011, 0b0111, 0b1000, 0b1001, 0b1011}` (R85). -/
def isReservedSubGroup (sub : Nibble) : Bool :=
  sub == 0b0001#4 || sub == 0b0011#4 || sub == 0b0111#4 || sub == 0b1000#4 || sub == 0b1001#4 || sub == 0b1011#4

/-- `decode_misc` (R83, R85). -/
def decodeMisc (w : Word) : Result Variant :=
  if isReservedSubGroup (subGroup w) then .ok mkUndefinedReserved else .raise (.unclassified .misc w)

/-- `decode_bcc_swi` (R83, R86). -/
def decodeBccSwi (w : Word) : Result Variant :=
  match fromMask (subGroup w).toNat with
  | .raise e => .raise e
  | .ok c =>
    if ha : c = .al then .ok mkUndefinedPermanent
    else if hn : c = .nv then .ok (mkSoftwareInterrupt (lowByte w))
    else .ok (mkCondBranch c (isReal_of_ne ha hn) (lowByte w))

/-- `decode(w)` (R83). -/
def decode (w : Word) : Result Variant :=
  if group w = 0b1011#4 then decodeMisc w
  else if group w = 0b1101#4 then decodeBccSwi w
  else .raise (.unclassified .top w)

/-- The word of an instruction: the fixed bits of its row and its operand; none for `Unpredictable` (R58, R63). -/
def encodeInstr : Instr → Option Word
  | .condBranchEQ offset => some (wordOf 0xD0#8 offset)
  | .condBranchNE offset => some (wordOf 0xD1#8 offset)
  | .condBranchCS offset => some (wordOf 0xD2#8 offset)
  | .condBranchCC offset => some (wordOf 0xD3#8 offset)
  | .condBranchMI offset => some (wordOf 0xD4#8 offset)
  | .condBranchPL offset => some (wordOf 0xD5#8 offset)
  | .condBranchVS offset => some (wordOf 0xD6#8 offset)
  | .condBranchVC offset => some (wordOf 0xD7#8 offset)
  | .condBranchHI offset => some (wordOf 0xD8#8 offset)
  | .condBranchLS offset => some (wordOf 0xD9#8 offset)
  | .condBranchGE offset => some (wordOf 0xDA#8 offset)
  | .condBranchLT offset => some (wordOf 0xDB#8 offset)
  | .condBranchGT offset => some (wordOf 0xDC#8 offset)
  | .condBranchLE offset => some (wordOf 0xDD#8 offset)
  | .undefinedPermanent low => some (wordOf 0xDE#8 low)
  | .softwareInterrupt imm => some (wordOf 0xDF#8 imm)
  | .undefinedReserved0001 low => some (wordOf 0xB1#8 low)
  | .undefinedReserved0011 low => some (wordOf 0xB3#8 low)
  | .undefinedReserved0111 low => some (wordOf 0xB7#8 low)
  | .undefinedReserved1000 low => some (wordOf 0xB8#8 low)
  | .undefinedReserved1001 low => some (wordOf 0xB9#8 low)
  | .undefinedReserved1011 low => some (wordOf 0xBB#8 low)
  | .unpredictable => none
  | .unclassifiedGroup0000 low => some (groupWordOf 0b0000#4 low)
  | .unclassifiedGroup0001 low => some (groupWordOf 0b0001#4 low)
  | .unclassifiedGroup0010 low => some (groupWordOf 0b0010#4 low)
  | .unclassifiedGroup0011 low => some (groupWordOf 0b0011#4 low)
  | .unclassifiedGroup0100 low => some (groupWordOf 0b0100#4 low)
  | .unclassifiedGroup0101 low => some (groupWordOf 0b0101#4 low)
  | .unclassifiedGroup0110 low => some (groupWordOf 0b0110#4 low)
  | .unclassifiedGroup0111 low => some (groupWordOf 0b0111#4 low)
  | .unclassifiedGroup1000 low => some (groupWordOf 0b1000#4 low)
  | .unclassifiedGroup1001 low => some (groupWordOf 0b1001#4 low)
  | .unclassifiedGroup1010 low => some (groupWordOf 0b1010#4 low)
  | .unclassifiedGroup1100 low => some (groupWordOf 0b1100#4 low)
  | .unclassifiedGroup1110 low => some (groupWordOf 0b1110#4 low)
  | .unclassifiedGroup1111 low => some (groupWordOf 0b1111#4 low)
  | .unclassifiedMisc0000 low => some (wordOf 0xB0#8 low)
  | .unclassifiedMisc0010 low => some (wordOf 0xB2#8 low)
  | .unclassifiedMisc0100 low => some (wordOf 0xB4#8 low)
  | .unclassifiedMisc0101 low => some (wordOf 0xB5#8 low)
  | .unclassifiedMisc0110 low => some (wordOf 0xB6#8 low)
  | .unclassifiedMisc1010 low => some (wordOf 0xBA#8 low)
  | .unclassifiedMisc1100 low => some (wordOf 0xBC#8 low)
  | .unclassifiedMisc1101 low => some (wordOf 0xBD#8 low)
  | .unclassifiedMisc1110 low => some (wordOf 0xBE#8 low)
  | .unclassifiedMisc1111 low => some (wordOf 0xBF#8 low)

/-- `encode(v)` (R97) with the two canonical words as arguments (00_scope.md R9, 42_encode.md R99). -/
def encodeWith (canonReserved canonPermanent : Word) (v : VariantTerm) : Result Word :=
  match v with
  | .condBranch c o =>
    if 14 ≤ (toMask c).toNat ∨ o < -128 ∨ 127 < o then .raise (.illFormedVariant (.term v))
    else .ok ((0b1101#16 <<< 12) ||| ((toMask c).setWidth 16 <<< 8) ||| (twos8 o).setWidth 16)
  | .softwareInterrupt i =>
    if i < 0 ∨ 255 < i then .raise (.illFormedVariant (.term v))
    else .ok ((0b1101#16 <<< 12) ||| (0b1111#16 <<< 8) ||| BitVec.ofNat 16 i.toNat)
  | .undefinedPermanent => .ok canonPermanent
  | .undefinedReserved => .ok canonReserved
  | .unpredictable => .raise (.unencodable .unpredictable)

/-- `encode(v)` (R97), with the canonical words the spec decided (R98, R102). -/
def encode (v : VariantTerm) : Result Word :=
  encodeWith Config.canonUndefReserved Config.canonUndefPermanent v

/-- `encode` at the ports (10_state.md R28, tags R32): the tag is examined first (60_exceptions.md R120). -/
def encodePorts (tag : BitVec 3) (cond : Nibble) (field : Byte) : Result Word :=
  match tag.toNat with
  | 0 => encode (.condBranch (condOfMask cond) (sext8 field))
  | 1 => encode (.softwareInterrupt (zext8 field))
  | 2 => encode .undefinedPermanent
  | 3 => encode .undefinedReserved
  | 4 => encode .unpredictable
  | _ => .raise (.illFormedVariant (.ports tag cond field))

/-- The mnemonic of an instruction's row in opcode_table.json. -/
def Instr.mnemonic : Instr → String
  | .condBranchEQ _ => "CondBranch[EQ]"
  | .condBranchNE _ => "CondBranch[NE]"
  | .condBranchCS _ => "CondBranch[CS]"
  | .condBranchCC _ => "CondBranch[CC]"
  | .condBranchMI _ => "CondBranch[MI]"
  | .condBranchPL _ => "CondBranch[PL]"
  | .condBranchVS _ => "CondBranch[VS]"
  | .condBranchVC _ => "CondBranch[VC]"
  | .condBranchHI _ => "CondBranch[HI]"
  | .condBranchLS _ => "CondBranch[LS]"
  | .condBranchGE _ => "CondBranch[GE]"
  | .condBranchLT _ => "CondBranch[LT]"
  | .condBranchGT _ => "CondBranch[GT]"
  | .condBranchLE _ => "CondBranch[LE]"
  | .undefinedPermanent _ => "UndefinedPermanent"
  | .softwareInterrupt _ => "SoftwareInterrupt"
  | .undefinedReserved0001 _ => "UndefinedReserved[sub=0001]"
  | .undefinedReserved0011 _ => "UndefinedReserved[sub=0011]"
  | .undefinedReserved0111 _ => "UndefinedReserved[sub=0111]"
  | .undefinedReserved1000 _ => "UndefinedReserved[sub=1000]"
  | .undefinedReserved1001 _ => "UndefinedReserved[sub=1001]"
  | .undefinedReserved1011 _ => "UndefinedReserved[sub=1011]"
  | .unpredictable => "Unpredictable"
  | .unclassifiedGroup0000 _ => "unclassified_group_0000"
  | .unclassifiedGroup0001 _ => "unclassified_group_0001"
  | .unclassifiedGroup0010 _ => "unclassified_group_0010"
  | .unclassifiedGroup0011 _ => "unclassified_group_0011"
  | .unclassifiedGroup0100 _ => "unclassified_group_0100"
  | .unclassifiedGroup0101 _ => "unclassified_group_0101"
  | .unclassifiedGroup0110 _ => "unclassified_group_0110"
  | .unclassifiedGroup0111 _ => "unclassified_group_0111"
  | .unclassifiedGroup1000 _ => "unclassified_group_1000"
  | .unclassifiedGroup1001 _ => "unclassified_group_1001"
  | .unclassifiedGroup1010 _ => "unclassified_group_1010"
  | .unclassifiedGroup1100 _ => "unclassified_group_1100"
  | .unclassifiedGroup1110 _ => "unclassified_group_1110"
  | .unclassifiedGroup1111 _ => "unclassified_group_1111"
  | .unclassifiedMisc0000 _ => "unclassified_misc_sub-group_0000"
  | .unclassifiedMisc0010 _ => "unclassified_misc_sub-group_0010"
  | .unclassifiedMisc0100 _ => "unclassified_misc_sub-group_0100"
  | .unclassifiedMisc0101 _ => "unclassified_misc_sub-group_0101"
  | .unclassifiedMisc0110 _ => "unclassified_misc_sub-group_0110"
  | .unclassifiedMisc1010 _ => "unclassified_misc_sub-group_1010"
  | .unclassifiedMisc1100 _ => "unclassified_misc_sub-group_1100"
  | .unclassifiedMisc1101 _ => "unclassified_misc_sub-group_1101"
  | .unclassifiedMisc1110 _ => "unclassified_misc_sub-group_1110"
  | .unclassifiedMisc1111 _ => "unclassified_misc_sub-group_1111"

/-- One row of the opcode table: `(w &&& mask) = pattern` (R58). -/
structure OpcodeRow where
  mnemonic : String
  pattern : Word
  mask : Word
  deriving DecidableEq, Repr

/-- The word lies in the row. -/
def OpcodeRow.covers (r : OpcodeRow) (w : Word) : Bool := (w &&& r.mask) == r.pattern

/-- The rows of format CB/SWI (R54, R58). -/
def cbSwiRows : List OpcodeRow :=
  [⟨"CondBranch[EQ]", 0xD000#16, 0xFF00#16⟩,
   ⟨"CondBranch[NE]", 0xD100#16, 0xFF00#16⟩,
   ⟨"CondBranch[CS]", 0xD200#16, 0xFF00#16⟩,
   ⟨"CondBranch[CC]", 0xD300#16, 0xFF00#16⟩,
   ⟨"CondBranch[MI]", 0xD400#16, 0xFF00#16⟩,
   ⟨"CondBranch[PL]", 0xD500#16, 0xFF00#16⟩,
   ⟨"CondBranch[VS]", 0xD600#16, 0xFF00#16⟩,
   ⟨"CondBranch[VC]", 0xD700#16, 0xFF00#16⟩,
   ⟨"CondBranch[HI]", 0xD800#16, 0xFF00#16⟩,
   ⟨"CondBranch[LS]", 0xD900#16, 0xFF00#16⟩,
   ⟨"CondBranch[GE]", 0xDA00#16, 0xFF00#16⟩,
   ⟨"CondBranch[LT]", 0xDB00#16, 0xFF00#16⟩,
   ⟨"CondBranch[GT]", 0xDC00#16, 0xFF00#16⟩,
   ⟨"CondBranch[LE]", 0xDD00#16, 0xFF00#16⟩,
   ⟨"UndefinedPermanent", 0xDE00#16, 0xFF00#16⟩,
   ⟨"SoftwareInterrupt", 0xDF00#16, 0xFF00#16⟩]

/-- The six reserved rows of format MISC (R53, R61). -/
def reservedRows : List OpcodeRow :=
  [⟨"UndefinedReserved[sub=0001]", 0xB100#16, 0xFF00#16⟩,
   ⟨"UndefinedReserved[sub=0011]", 0xB300#16, 0xFF00#16⟩,
   ⟨"UndefinedReserved[sub=0111]", 0xB700#16, 0xFF00#16⟩,
   ⟨"UndefinedReserved[sub=1000]", 0xB800#16, 0xFF00#16⟩,
   ⟨"UndefinedReserved[sub=1001]", 0xB900#16, 0xFF00#16⟩,
   ⟨"UndefinedReserved[sub=1011]", 0xBB00#16, 0xFF00#16⟩]

/-- The unclassified top-level groups (R51, R62). -/
def unclassifiedTopRows : List OpcodeRow :=
  [⟨"unclassified_group_0000", 0x0000#16, 0xF000#16⟩,
   ⟨"unclassified_group_0001", 0x1000#16, 0xF000#16⟩,
   ⟨"unclassified_group_0010", 0x2000#16, 0xF000#16⟩,
   ⟨"unclassified_group_0011", 0x3000#16, 0xF000#16⟩,
   ⟨"unclassified_group_0100", 0x4000#16, 0xF000#16⟩,
   ⟨"unclassified_group_0101", 0x5000#16, 0xF000#16⟩,
   ⟨"unclassified_group_0110", 0x6000#16, 0xF000#16⟩,
   ⟨"unclassified_group_0111", 0x7000#16, 0xF000#16⟩,
   ⟨"unclassified_group_1000", 0x8000#16, 0xF000#16⟩,
   ⟨"unclassified_group_1001", 0x9000#16, 0xF000#16⟩,
   ⟨"unclassified_group_1010", 0xA000#16, 0xF000#16⟩,
   ⟨"unclassified_group_1100", 0xC000#16, 0xF000#16⟩,
   ⟨"unclassified_group_1110", 0xE000#16, 0xF000#16⟩,
   ⟨"unclassified_group_1111", 0xF000#16, 0xF000#16⟩]

/-- The unclassified sub-groups of group `0b1011` (R53, R62). -/
def unclassifiedMiscRows : List OpcodeRow :=
  [⟨"unclassified_misc_sub-group_0000", 0xB000#16, 0xFF00#16⟩,
   ⟨"unclassified_misc_sub-group_0010", 0xB200#16, 0xFF00#16⟩,
   ⟨"unclassified_misc_sub-group_0100", 0xB400#16, 0xFF00#16⟩,
   ⟨"unclassified_misc_sub-group_0101", 0xB500#16, 0xFF00#16⟩,
   ⟨"unclassified_misc_sub-group_0110", 0xB600#16, 0xFF00#16⟩,
   ⟨"unclassified_misc_sub-group_1010", 0xBA00#16, 0xFF00#16⟩,
   ⟨"unclassified_misc_sub-group_1100", 0xBC00#16, 0xFF00#16⟩,
   ⟨"unclassified_misc_sub-group_1101", 0xBD00#16, 0xFF00#16⟩,
   ⟨"unclassified_misc_sub-group_1110", 0xBE00#16, 0xFF00#16⟩,
   ⟨"unclassified_misc_sub-group_1111", 0xBF00#16, 0xFF00#16⟩]

/-- The 46 rows of opcode_table.json that match words; `Unpredictable` matches none (R58). -/
def opcodeRows : List OpcodeRow := cbSwiRows ++ reservedRows ++ unclassifiedTopRows ++ unclassifiedMiscRows

end Sys2Proof
end

