-- ==== Sys2Proof/Machine/State.lean ====
section
/-! DEFINITION. The state the model steps on. The BLOCK has no state: no registers, program counter, flags, modes, memory
or hidden state (10_state.md R18 to R22, 20_memory.md R37). What State holds is the wires of the block's ports
(10_state.md R27 to R31), each as last presented or driven, and the caller's side of the interface: the operations it
presents next and the outcomes it has received (DESIGN CHOICE, log entries 1 and 2). -/

namespace Sys2Proof.Machine

/-- An operation a caller presents, with the values it puts on the operation's inputs (10_state.md R35). -/
inductive Request where
  /-- `decode` of a word on `dec_word` (R27). -/
  | decode (w : Word)
  /-- The next halfword of an instruction stream, its byte at the lower address first (20_memory.md R40), decoded by a
  caller loop, which stops at the first `Unclassified` word (60_exceptions.md R122). -/
  | stream (b0 b1 : Byte)
  /-- `encode` of what stands on `enc_tag`, `enc_cond` and `enc_field` (R28). -/
  | encodePorts (tag : BitVec 3) (cond : Nibble) (field : Byte)
  /-- `encode` called as a function on a variant term, which may be ill formed (42_encode.md R97). -/
  | encode (v : VariantTerm)
  /-- `from_mask` of the integer on `fm_m` (R29). -/
  | fromMask (m : Nat)
  /-- `to_mask` of a condition (R29). -/
  | toMask (c : Cond)
  /-- `from_mnemonic` of a byte string (R30). -/
  | fromMnemonic (s : List Byte)
  /-- `to_mnemonic` of a condition on `tm_cond` (R30). -/
  | toMnemonic (c : Cond)
  /-- `all` at its port, the index on `all_k` (R31). -/
  | allAt (k : Nibble)
  /-- `all()` called as a function: the whole sequence (40_condition_codes.md R81). -/
  | all
  deriving DecidableEq, Repr

/-- The outcome a caller receives for an operation (00_scope.md R14, 60_exceptions.md R121). -/
inductive Response where
  | decoded (r : Result Variant)
  | encoded (r : Result Word)
  | fromMask (r : Result Cond)
  | toMask (m : Nibble)
  | fromMnemonic (r : Result Cond)
  | toMnemonic (s : List Byte)
  | allAt (c : Cond)
  | all (cs : List Cond)
  deriving DecidableEq, Repr

/-- `dec_tag`, `dec_cond` and `dec_field` of a decode that gives a variant (R27). -/
structure DecOut where
  tag : BitVec 3
  cond : Nibble
  field : Byte
  deriving DecidableEq, Repr

/-- The decoder's ports (R27). The three variant outputs carry no meaning when `err` is 1 and then have no value (R33). -/
structure DecPorts where
  word : Word
  err : BitVec 1
  errCode : BitVec 4
  out : Option DecOut
  deriving DecidableEq, Repr

/-- The encoder's ports (R28). The word output has no value when `err` is 1 (R33). -/
structure EncPorts where
  tag : BitVec 3
  cond : Nibble
  field : Byte
  err : BitVec 1
  errCode : BitVec 4
  word : Option Word
  deriving DecidableEq, Repr

/-- The `from_mask` ports (R29). The condition output has no value when `err` is 1 (R33). -/
structure FmPorts where
  m : Nat
  err : BitVec 1
  cond : Option Nibble
  deriving DecidableEq, Repr

/-- The `to_mask` ports (R29): a condition on 4 wires and its mask. The spec gives the wires no names (log entry 14). -/
structure ToMaskPorts where
  cond : Nibble
  mask : Nibble
  deriving DecidableEq, Repr

/-- The `to_mnemonic` ports (R30). -/
structure TmPorts where
  cond : Nibble
  len : BitVec 2
  char0 : Byte
  char1 : Byte
  deriving DecidableEq, Repr

/-- The `from_mnemonic` ports (R30). The condition output has no value when `err` is 1 (R33). -/
structure FnPorts where
  text : List Byte
  err : BitVec 1
  cond : Option Nibble
  deriving DecidableEq, Repr

/-- The `all` port (R31): the index, and the condition read for it on 4 wires (log entry 14). -/
structure AllPorts where
  k : Nibble
  cond : Nibble
  deriving DecidableEq, Repr

structure State where
  /-- The decoder's ports. -/
  dec : DecPorts
  /-- The encoder's ports. -/
  enc : EncPorts
  /-- The `from_mask` ports. -/
  fm : FmPorts
  /-- The `to_mask` ports. -/
  toMask : ToMaskPorts
  /-- The `to_mnemonic` ports. -/
  tm : TmPorts
  /-- The `from_mnemonic` ports. -/
  fn : FnPorts
  /-- The `all` port. -/
  all : AllPorts
  /-- The operations the caller presents next, oldest first: the model's own field (log entry 2). -/
  pending : List Request
  /-- The outcomes the caller has received, oldest first: the model's own field (log entry 2). -/
  outcomes : List Response
  deriving DecidableEq, Repr

/-- Why the machine stops. -/
inductive Fault where
  /-- Raised by `step`, when a caller loop that decodes a stream meets a word whose decode raises
  `Unclassified(level, w)`: "a hard stop" (60_exceptions.md R115, R122, D13). Safe: nothing is proved of what a caller
  might do after it. -/
  | unclassified (level : Level) (w : Word)
  deriving DecidableEq, Repr

/-- Why the model gives an instruction no meaning. -/
inductive Refusal where
  /-- Raised by `exec` for an instruction whose meaning is not written yet. No arm does so. Safe. -/
  | notModelled (mnemonic : String)
  deriving DecidableEq, Repr

/-- The machine right after reset. The spec resets nothing, because the block has no state (10_state.md R36,
70_reset_and_hazards.md R131). DESIGN CHOICE (log entry 3, unsafe): every input wire is 0, the string is empty, nothing is
presented and nothing received; each output is the block's output for those inputs, as at any other time (R36). -/
def State.reset : State where
  dec := { word := 0#16, err := 1#1, errCode := 3#4, out := none }
  enc := { tag := 0#3, cond := 0#4, field := 0#8, err := 0#1, errCode := 0#4, word := some 0xD000#16 }
  fm := { m := 0, err := 0#1, cond := some 0#4 }
  toMask := { cond := 0#4, mask := 0#4 }
  tm := { cond := 0#4, len := 2#2, char0 := 0x65#8, char1 := 0x71#8 }
  fn := { text := [], err := 1#1, cond := none }
  all := { k := 0#4, cond := 0#4 }
  pending := []
  outcomes := []

end Sys2Proof.Machine
end

