-- ==== Sys2Proof/Machine/Ops.lean ====
section
/-! DEFINITION. The named operations on State: what an outcome drives on the ports (10_state.md R27 to R31), and one
operation for each unit that drives its ports and delivers its outcome to the caller. Delivering an error is the same
operation as delivering a value: an error saves nothing, transfers control nowhere and has no other effect
(60_exceptions.md R121, R123), so the block has no trap entry and no return from one (R124). -/

namespace Sys2Proof.Machine

/-- The code of an error (60_exceptions.md R113); code 0 stands for no error. -/
def errCode : Err → BitVec 4
  | .maskOutOfRange _ => 1#4
  | .unrecognizedMnemonic _ => 2#4
  | .unclassified _ _ => 3#4
  | .unencodable _ => 4#4
  | .illFormedVariant _ => 5#4

/-- The tag of a variant (10_state.md R32). -/
def variantTag : VariantTerm → BitVec 3
  | .condBranch _ _ => 0#3
  | .softwareInterrupt _ => 1#3
  | .undefinedPermanent => 2#3
  | .undefinedReserved => 3#3
  | .unpredictable => 4#3

/-- `dec_cond` of a variant: the mask of a branch's condition, else 0 (R27). -/
def variantCond : VariantTerm → Nibble
  | .condBranch c _ => Sys2Proof.toMask c
  | .softwareInterrupt _ => 0#4
  | .undefinedPermanent => 0#4
  | .undefinedReserved => 0#4
  | .unpredictable => 0#4

/-- `dec_field` of a variant: the offset's byte, the immediate, else 0 (R27). -/
def variantField : VariantTerm → Byte
  | .condBranch _ o => twos8 o
  | .softwareInterrupt i => BitVec.ofNat 8 i.toNat
  | .undefinedPermanent => 0#8
  | .undefinedReserved => 0#8
  | .unpredictable => 0#8

/-- The decoder's ports for a word and its outcome (R27). DEDUCED: `dec_err_code` is 0, "no error", beside a value
(R113, log entry 12). -/
def decPorts (w : Word) : Result Variant → DecPorts
  | .ok v => { word := w, err := 0#1, errCode := 0#4,
               out := some { tag := variantTag v.val, cond := variantCond v.val, field := variantField v.val } }
  | .raise e => { word := w, err := 1#1, errCode := errCode e, out := none }

/-- The encoder's ports for its inputs and its outcome (R28). DEDUCED: `enc_err_code` is 0 beside a value (log entry 12). -/
def encPorts (tag : BitVec 3) (cond : Nibble) (field : Byte) : Result Word → EncPorts
  | .ok w => { tag := tag, cond := cond, field := field, err := 0#1, errCode := 0#4, word := some w }
  | .raise e => { tag := tag, cond := cond, field := field, err := 1#1, errCode := errCode e, word := none }

/-- The `from_mask` ports for an integer and its outcome (R29). -/
def fmPorts (m : Nat) : Result Cond → FmPorts
  | .ok c => { m := m, err := 0#1, cond := some (Sys2Proof.toMask c) }
  | .raise _ => { m := m, err := 1#1, cond := none }

/-- The `to_mask` ports for the condition on the wires (R29). -/
def toMaskPorts (cond : Nibble) : ToMaskPorts :=
  { cond := cond, mask := Sys2Proof.toMask (condOfMask cond) }

/-- The `to_mnemonic` ports for the condition on the wires; a character past the length is 0 (R30). -/
def tmPorts (cond : Nibble) : TmPorts :=
  let text := toMnemonic (condOfMask cond)
  { cond := cond, len := BitVec.ofNat 2 text.length, char0 := text.getD 0 0#8, char1 := text.getD 1 0#8 }

/-- The `from_mnemonic` ports for a string and its outcome (R30). -/
def fnPorts (text : List Byte) : Result Cond → FnPorts
  | .ok c => { text := text, err := 0#1, cond := some (Sys2Proof.toMask c) }
  | .raise _ => { text := text, err := 1#1, cond := none }

/-- The `all` port for an index (R31). -/
def allPorts (k : Nibble) : AllPorts :=
  { k := k, cond := Sys2Proof.toMask (condOfMask k) }

/-- The caller presents one more operation (10_state.md R35). -/
def present (r : Request) (s : State) : State := { s with pending := s.pending ++ [r] }

/-- The operations still to come. -/
def setPending (rs : List Request) (s : State) : State := { s with pending := rs }

/-- The caller receives an outcome (60_exceptions.md R121). -/
def receive (r : Response) (s : State) : State := { s with outcomes := s.outcomes ++ [r] }

/-- The decoder's outcome for a word: its ports driven, the outcome delivered (R27, R83). -/
def deliverDecode (w : Word) (r : Result Variant) (s : State) : State :=
  receive (.decoded r) { s with dec := decPorts w r }

/-- The encoder's outcome at the ports: its ports driven, the outcome delivered (R28, R97). -/
def deliverEncode (tag : BitVec 3) (cond : Nibble) (field : Byte) (r : Result Word) (s : State) : State :=
  receive (.encoded r) { s with enc := encPorts tag cond field r }

/-- `encode` at the ports (R28). -/
def opEncodePorts (tag : BitVec 3) (cond : Nibble) (field : Byte) (s : State) : State :=
  deliverEncode tag cond field (encodePorts tag cond field) s

/-- `encode` called as a function: no port holds its argument, so none changes (log entry 13). -/
def opEncode (v : VariantTerm) (s : State) : State := receive (.encoded (encode v)) s

/-- `from_mask` (R29, R72). -/
def opFromMask (m : Nat) (s : State) : State :=
  receive (.fromMask (fromMask m)) { s with fm := fmPorts m (fromMask m) }

/-- `to_mask` (R29, R74). -/
def opToMask (c : Cond) (s : State) : State :=
  receive (.toMask (Sys2Proof.toMask c)) { s with toMask := toMaskPorts (Sys2Proof.toMask c) }

/-- `from_mnemonic` (R30, R77). -/
def opFromMnemonic (text : List Byte) (s : State) : State :=
  receive (.fromMnemonic (fromMnemonic text)) { s with fn := fnPorts text (fromMnemonic text) }

/-- `to_mnemonic` (R30, R78). -/
def opToMnemonic (c : Cond) (s : State) : State :=
  receive (.toMnemonic (toMnemonic c)) { s with tm := tmPorts (Sys2Proof.toMask c) }

/-- `all` at its port (R31). -/
def opAllAt (k : Nibble) (s : State) : State :=
  receive (.allAt (condOfMask k)) { s with all := allPorts k }

/-- `all()` called as a function (R81): no port holds the sequence, so none changes (log entry 13). -/
def opAll (s : State) : State := receive (.all allConds) s

/-- A decode that gives a variant (R83). -/
def decodesTo (w : Word) (v : Variant) (s : State) : Host.Outcome State Fault Refusal :=
  .next (deliverDecode w (.ok v) s)

/-- A decode that raises `Unclassified` (R84, R85, R115): the error is the whole outcome (R111). -/
def decodeRaises (level : Level) (w : Word) (s : State) : Host.Outcome State Fault Refusal :=
  .next (deliverDecode w (.raise (.unclassified level w)) s)

/-- A caller loop after one decode of its stream: it stops at an `Unclassified` word, with that fault, and goes on after
any other outcome (60_exceptions.md R122, D13). -/
def hardStop : Host.Outcome State Fault Refusal → Host.Outcome State Fault Refusal
  | .next t =>
    match t.outcomes.getLast? with
    | some (.decoded (.raise (.unclassified level w))) => .fault (.unclassified level w)
    | _ => .next t
  | .fault r => .fault r
  | .refused r => .refused r

end Sys2Proof.Machine
end

