-- ==== Sys2Proof/Machine/CondBranch.lean ====
section
/-! DEFINITION. The 14 conditional-branch rows (41_decode.md R87). The condition is carried, not evaluated, and the offset is
the raw signed byte: no flag is written, no target is computed, no exception is raised. -/

namespace Sys2Proof.Machine

/-- `CondBranch[EQ]` (R87): `ok(CondBranch(EQ, sext_8(w[7:0])))`. -/
def execCondBranchEQ (offset : Byte) (s : State) : Host.Outcome State Fault Refusal :=
  decodesTo (wordOf 0xD0#8 offset) (mkCondBranch .eq rfl offset) s

/-- `CondBranch[NE]` (R87): `ok(CondBranch(NE, sext_8(w[7:0])))`. -/
def execCondBranchNE (offset : Byte) (s : State) : Host.Outcome State Fault Refusal :=
  decodesTo (wordOf 0xD1#8 offset) (mkCondBranch .ne rfl offset) s

/-- `CondBranch[CS]` (R87): `ok(CondBranch(CS, sext_8(w[7:0])))`. -/
def execCondBranchCS (offset : Byte) (s : State) : Host.Outcome State Fault Refusal :=
  decodesTo (wordOf 0xD2#8 offset) (mkCondBranch .cs rfl offset) s

/-- `CondBranch[CC]` (R87): `ok(CondBranch(CC, sext_8(w[7:0])))`. -/
def execCondBranchCC (offset : Byte) (s : State) : Host.Outcome State Fault Refusal :=
  decodesTo (wordOf 0xD3#8 offset) (mkCondBranch .cc rfl offset) s

/-- `CondBranch[MI]` (R87): `ok(CondBranch(MI, sext_8(w[7:0])))`. -/
def execCondBranchMI (offset : Byte) (s : State) : Host.Outcome State Fault Refusal :=
  decodesTo (wordOf 0xD4#8 offset) (mkCondBranch .mi rfl offset) s

/-- `CondBranch[PL]` (R87): `ok(CondBranch(PL, sext_8(w[7:0])))`. -/
def execCondBranchPL (offset : Byte) (s : State) : Host.Outcome State Fault Refusal :=
  decodesTo (wordOf 0xD5#8 offset) (mkCondBranch .pl rfl offset) s

/-- `CondBranch[VS]` (R87): `ok(CondBranch(VS, sext_8(w[7:0])))`. -/
def execCondBranchVS (offset : Byte) (s : State) : Host.Outcome State Fault Refusal :=
  decodesTo (wordOf 0xD6#8 offset) (mkCondBranch .vs rfl offset) s

/-- `CondBranch[VC]` (R87): `ok(CondBranch(VC, sext_8(w[7:0])))`. -/
def execCondBranchVC (offset : Byte) (s : State) : Host.Outcome State Fault Refusal :=
  decodesTo (wordOf 0xD7#8 offset) (mkCondBranch .vc rfl offset) s

/-- `CondBranch[HI]` (R87): `ok(CondBranch(HI, sext_8(w[7:0])))`. -/
def execCondBranchHI (offset : Byte) (s : State) : Host.Outcome State Fault Refusal :=
  decodesTo (wordOf 0xD8#8 offset) (mkCondBranch .hi rfl offset) s

/-- `CondBranch[LS]` (R87): `ok(CondBranch(LS, sext_8(w[7:0])))`. -/
def execCondBranchLS (offset : Byte) (s : State) : Host.Outcome State Fault Refusal :=
  decodesTo (wordOf 0xD9#8 offset) (mkCondBranch .ls rfl offset) s

/-- `CondBranch[GE]` (R87): `ok(CondBranch(GE, sext_8(w[7:0])))`. -/
def execCondBranchGE (offset : Byte) (s : State) : Host.Outcome State Fault Refusal :=
  decodesTo (wordOf 0xDA#8 offset) (mkCondBranch .ge rfl offset) s

/-- `CondBranch[LT]` (R87): `ok(CondBranch(LT, sext_8(w[7:0])))`. -/
def execCondBranchLT (offset : Byte) (s : State) : Host.Outcome State Fault Refusal :=
  decodesTo (wordOf 0xDB#8 offset) (mkCondBranch .lt rfl offset) s

/-- `CondBranch[GT]` (R87): `ok(CondBranch(GT, sext_8(w[7:0])))`. -/
def execCondBranchGT (offset : Byte) (s : State) : Host.Outcome State Fault Refusal :=
  decodesTo (wordOf 0xDC#8 offset) (mkCondBranch .gt rfl offset) s

/-- `CondBranch[LE]` (R87): `ok(CondBranch(LE, sext_8(w[7:0])))`. -/
def execCondBranchLE (offset : Byte) (s : State) : Host.Outcome State Fault Refusal :=
  decodesTo (wordOf 0xDD#8 offset) (mkCondBranch .le rfl offset) s

end Sys2Proof.Machine
end

