-- ==== Sys2Proof/Machine/SoftwareInterrupt.lean ====
section
/-! DEFINITION. The software-interrupt row (41_decode.md R88): a decode result, not a trap of the block (60_exceptions.md R125). -/

namespace Sys2Proof.Machine

/-- `SoftwareInterrupt` (R88): `ok(SoftwareInterrupt(zext(w[7:0])))`; no trap is taken. -/
def execSoftwareInterrupt (imm : Byte) (s : State) : Host.Outcome State Fault Refusal :=
  decodesTo (wordOf 0xDF#8 imm) (mkSoftwareInterrupt imm) s

end Sys2Proof.Machine
end

