-- ==== Sys2Proof/Machine/Unclassified.lean ====
section
/-! DEFINITION. The 24 unclassified rows: the decode raises `Unclassified` with its level and the whole word, gives no
variant (30_encoding.md R62, 60_exceptions.md R115) and delivers the error to the caller at once (R121). The hard stop of a
caller loop at such a word is `hardStop`, around `exec` in `step` (R122). -/

namespace Sys2Proof.Machine

/-- `unclassified_group_0000` (R84): `raise Unclassified(TOP, w)`. -/
def execUnclassifiedGroup0000 (low : BitVec 12) (s : State) : Host.Outcome State Fault Refusal :=
  decodeRaises .top (groupWordOf 0b0000#4 low) s

/-- `unclassified_group_0001` (R84): `raise Unclassified(TOP, w)`. -/
def execUnclassifiedGroup0001 (low : BitVec 12) (s : State) : Host.Outcome State Fault Refusal :=
  decodeRaises .top (groupWordOf 0b0001#4 low) s

/-- `unclassified_group_0010` (R84): `raise Unclassified(TOP, w)`. -/
def execUnclassifiedGroup0010 (low : BitVec 12) (s : State) : Host.Outcome State Fault Refusal :=
  decodeRaises .top (groupWordOf 0b0010#4 low) s

/-- `unclassified_group_0011` (R84): `raise Unclassified(TOP, w)`. -/
def execUnclassifiedGroup0011 (low : BitVec 12) (s : State) : Host.Outcome State Fault Refusal :=
  decodeRaises .top (groupWordOf 0b0011#4 low) s

/-- `unclassified_group_0100` (R84): `raise Unclassified(TOP, w)`. -/
def execUnclassifiedGroup0100 (low : BitVec 12) (s : State) : Host.Outcome State Fault Refusal :=
  decodeRaises .top (groupWordOf 0b0100#4 low) s

/-- `unclassified_group_0101` (R84): `raise Unclassified(TOP, w)`. -/
def execUnclassifiedGroup0101 (low : BitVec 12) (s : State) : Host.Outcome State Fault Refusal :=
  decodeRaises .top (groupWordOf 0b0101#4 low) s

/-- `unclassified_group_0110` (R84): `raise Unclassified(TOP, w)`. -/
def execUnclassifiedGroup0110 (low : BitVec 12) (s : State) : Host.Outcome State Fault Refusal :=
  decodeRaises .top (groupWordOf 0b0110#4 low) s

/-- `unclassified_group_0111` (R84): `raise Unclassified(TOP, w)`. -/
def execUnclassifiedGroup0111 (low : BitVec 12) (s : State) : Host.Outcome State Fault Refusal :=
  decodeRaises .top (groupWordOf 0b0111#4 low) s

/-- `unclassified_group_1000` (R84): `raise Unclassified(TOP, w)`. -/
def execUnclassifiedGroup1000 (low : BitVec 12) (s : State) : Host.Outcome State Fault Refusal :=
  decodeRaises .top (groupWordOf 0b1000#4 low) s

/-- `unclassified_group_1001` (R84): `raise Unclassified(TOP, w)`. -/
def execUnclassifiedGroup1001 (low : BitVec 12) (s : State) : Host.Outcome State Fault Refusal :=
  decodeRaises .top (groupWordOf 0b1001#4 low) s

/-- `unclassified_group_1010` (R84): `raise Unclassified(TOP, w)`. -/
def execUnclassifiedGroup1010 (low : BitVec 12) (s : State) : Host.Outcome State Fault Refusal :=
  decodeRaises .top (groupWordOf 0b1010#4 low) s

/-- `unclassified_group_1100` (R84): `raise Unclassified(TOP, w)`. -/
def execUnclassifiedGroup1100 (low : BitVec 12) (s : State) : Host.Outcome State Fault Refusal :=
  decodeRaises .top (groupWordOf 0b1100#4 low) s

/-- `unclassified_group_1110` (R84): `raise Unclassified(TOP, w)`. -/
def execUnclassifiedGroup1110 (low : BitVec 12) (s : State) : Host.Outcome State Fault Refusal :=
  decodeRaises .top (groupWordOf 0b1110#4 low) s

/-- `unclassified_group_1111` (R84): `raise Unclassified(TOP, w)`. -/
def execUnclassifiedGroup1111 (low : BitVec 12) (s : State) : Host.Outcome State Fault Refusal :=
  decodeRaises .top (groupWordOf 0b1111#4 low) s

/-- `unclassified_misc_sub-group_0000` (R85): `raise Unclassified(MISC, w)`. -/
def execUnclassifiedMisc0000 (low : Byte) (s : State) : Host.Outcome State Fault Refusal :=
  decodeRaises .misc (wordOf 0xB0#8 low) s

/-- `unclassified_misc_sub-group_0010` (R85): `raise Unclassified(MISC, w)`. -/
def execUnclassifiedMisc0010 (low : Byte) (s : State) : Host.Outcome State Fault Refusal :=
  decodeRaises .misc (wordOf 0xB2#8 low) s

/-- `unclassified_misc_sub-group_0100` (R85): `raise Unclassified(MISC, w)`. -/
def execUnclassifiedMisc0100 (low : Byte) (s : State) : Host.Outcome State Fault Refusal :=
  decodeRaises .misc (wordOf 0xB4#8 low) s

/-- `unclassified_misc_sub-group_0101` (R85): `raise Unclassified(MISC, w)`. -/
def execUnclassifiedMisc0101 (low : Byte) (s : State) : Host.Outcome State Fault Refusal :=
  decodeRaises .misc (wordOf 0xB5#8 low) s

/-- `unclassified_misc_sub-group_0110` (R85): `raise Unclassified(MISC, w)`. -/
def execUnclassifiedMisc0110 (low : Byte) (s : State) : Host.Outcome State Fault Refusal :=
  decodeRaises .misc (wordOf 0xB6#8 low) s

/-- `unclassified_misc_sub-group_1010` (R85): `raise Unclassified(MISC, w)`. -/
def execUnclassifiedMisc1010 (low : Byte) (s : State) : Host.Outcome State Fault Refusal :=
  decodeRaises .misc (wordOf 0xBA#8 low) s

/-- `unclassified_misc_sub-group_1100` (R85): `raise Unclassified(MISC, w)`. -/
def execUnclassifiedMisc1100 (low : Byte) (s : State) : Host.Outcome State Fault Refusal :=
  decodeRaises .misc (wordOf 0xBC#8 low) s

/-- `unclassified_misc_sub-group_1101` (R85): `raise Unclassified(MISC, w)`. -/
def execUnclassifiedMisc1101 (low : Byte) (s : State) : Host.Outcome State Fault Refusal :=
  decodeRaises .misc (wordOf 0xBD#8 low) s

/-- `unclassified_misc_sub-group_1110` (R85): `raise Unclassified(MISC, w)`. -/
def execUnclassifiedMisc1110 (low : Byte) (s : State) : Host.Outcome State Fault Refusal :=
  decodeRaises .misc (wordOf 0xBE#8 low) s

/-- `unclassified_misc_sub-group_1111` (R85): `raise Unclassified(MISC, w)`. -/
def execUnclassifiedMisc1111 (low : Byte) (s : State) : Host.Outcome State Fault Refusal :=
  decodeRaises .misc (wordOf 0xBF#8 low) s

end Sys2Proof.Machine
end

