-- ==== Sys2Proof/Machine/Undefined.lean ====
section
/-! DEFINITION. The rows of the architectural outcomes `UndefinedPermanent`, `UndefinedReserved` and `Unpredictable`: results,
not errors (60_exceptions.md R114). -/

namespace Sys2Proof.Machine

/-- `UndefinedPermanent` (R90): a valid result, whatever the low byte. -/
def execUndefinedPermanent (low : Byte) (s : State) : Host.Outcome State Fault Refusal :=
  decodesTo (wordOf 0xDE#8 low) mkUndefinedPermanent s

/-- `UndefinedReserved[sub=0001]` (R91): `ok(UndefinedReserved)`, whatever the low byte. -/
def execUndefinedReserved0001 (low : Byte) (s : State) : Host.Outcome State Fault Refusal :=
  decodesTo (wordOf 0xB1#8 low) mkUndefinedReserved s

/-- `UndefinedReserved[sub=0011]` (R91): `ok(UndefinedReserved)`, whatever the low byte. -/
def execUndefinedReserved0011 (low : Byte) (s : State) : Host.Outcome State Fault Refusal :=
  decodesTo (wordOf 0xB3#8 low) mkUndefinedReserved s

/-- `UndefinedReserved[sub=0111]` (R91): `ok(UndefinedReserved)`, whatever the low byte. -/
def execUndefinedReserved0111 (low : Byte) (s : State) : Host.Outcome State Fault Refusal :=
  decodesTo (wordOf 0xB7#8 low) mkUndefinedReserved s

/-- `UndefinedReserved[sub=1000]` (R91): `ok(UndefinedReserved)`, whatever the low byte. -/
def execUndefinedReserved1000 (low : Byte) (s : State) : Host.Outcome State Fault Refusal :=
  decodesTo (wordOf 0xB8#8 low) mkUndefinedReserved s

/-- `UndefinedReserved[sub=1001]` (R91): `ok(UndefinedReserved)`, whatever the low byte. -/
def execUndefinedReserved1001 (low : Byte) (s : State) : Host.Outcome State Fault Refusal :=
  decodesTo (wordOf 0xB9#8 low) mkUndefinedReserved s

/-- `UndefinedReserved[sub=1011]` (R91): `ok(UndefinedReserved)`, whatever the low byte. -/
def execUndefinedReserved1011 (low : Byte) (s : State) : Host.Outcome State Fault Refusal :=
  decodesTo (wordOf 0xBB#8 low) mkUndefinedReserved s

/-- `Unpredictable`: no word decodes to it (R89), so the one operation that can take it is `encode` at tag 4, which raises
`Unencodable(Unpredictable)` (42_encode.md R103, 60_exceptions.md R116); `enc_cond` and `enc_field` are ignored and stay
as they are (10_state.md R28). DEDUCED: that this is the row's meaning (log entry 7). -/
def execUnpredictable (s : State) : Host.Outcome State Fault Refusal :=
  .next (deliverEncode 4#3 s.enc.cond s.enc.field (.raise (.unencodable .unpredictable)) s)

end Sys2Proof.Machine
end

