-- ==== Sys2Proof/Machine/Dispatch.lean ====
section
/-! DEFINITION. What each instruction does when the decoder is given its word. -/

namespace Sys2Proof.Machine

def exec (i : Instr) (s : State) : Host.Outcome State Fault Refusal :=
  match i with
  | .condBranchEQ offset => Sys2Proof.Machine.execCondBranchEQ offset s
  | .condBranchNE offset => Sys2Proof.Machine.execCondBranchNE offset s
  | .condBranchCS offset => Sys2Proof.Machine.execCondBranchCS offset s
  | .condBranchCC offset => Sys2Proof.Machine.execCondBranchCC offset s
  | .condBranchMI offset => Sys2Proof.Machine.execCondBranchMI offset s
  | .condBranchPL offset => Sys2Proof.Machine.execCondBranchPL offset s
  | .condBranchVS offset => Sys2Proof.Machine.execCondBranchVS offset s
  | .condBranchVC offset => Sys2Proof.Machine.execCondBranchVC offset s
  | .condBranchHI offset => Sys2Proof.Machine.execCondBranchHI offset s
  | .condBranchLS offset => Sys2Proof.Machine.execCondBranchLS offset s
  | .condBranchGE offset => Sys2Proof.Machine.execCondBranchGE offset s
  | .condBranchLT offset => Sys2Proof.Machine.execCondBranchLT offset s
  | .condBranchGT offset => Sys2Proof.Machine.execCondBranchGT offset s
  | .condBranchLE offset => Sys2Proof.Machine.execCondBranchLE offset s
  | .undefinedPermanent low => Sys2Proof.Machine.execUndefinedPermanent low s
  | .softwareInterrupt imm => Sys2Proof.Machine.execSoftwareInterrupt imm s
  | .undefinedReserved0001 low => Sys2Proof.Machine.execUndefinedReserved0001 low s
  | .undefinedReserved0011 low => Sys2Proof.Machine.execUndefinedReserved0011 low s
  | .undefinedReserved0111 low => Sys2Proof.Machine.execUndefinedReserved0111 low s
  | .undefinedReserved1000 low => Sys2Proof.Machine.execUndefinedReserved1000 low s
  | .undefinedReserved1001 low => Sys2Proof.Machine.execUndefinedReserved1001 low s
  | .undefinedReserved1011 low => Sys2Proof.Machine.execUndefinedReserved1011 low s
  | .unpredictable => Sys2Proof.Machine.execUnpredictable s
  | .unclassifiedGroup0000 low => Sys2Proof.Machine.execUnclassifiedGroup0000 low s
  | .unclassifiedGroup0001 low => Sys2Proof.Machine.execUnclassifiedGroup0001 low s
  | .unclassifiedGroup0010 low => Sys2Proof.Machine.execUnclassifiedGroup0010 low s
  | .unclassifiedGroup0011 low => Sys2Proof.Machine.execUnclassifiedGroup0011 low s
  | .unclassifiedGroup0100 low => Sys2Proof.Machine.execUnclassifiedGroup0100 low s
  | .unclassifiedGroup0101 low => Sys2Proof.Machine.execUnclassifiedGroup0101 low s
  | .unclassifiedGroup0110 low => Sys2Proof.Machine.execUnclassifiedGroup0110 low s
  | .unclassifiedGroup0111 low => Sys2Proof.Machine.execUnclassifiedGroup0111 low s
  | .unclassifiedGroup1000 low => Sys2Proof.Machine.execUnclassifiedGroup1000 low s
  | .unclassifiedGroup1001 low => Sys2Proof.Machine.execUnclassifiedGroup1001 low s
  | .unclassifiedGroup1010 low => Sys2Proof.Machine.execUnclassifiedGroup1010 low s
  | .unclassifiedGroup1100 low => Sys2Proof.Machine.execUnclassifiedGroup1100 low s
  | .unclassifiedGroup1110 low => Sys2Proof.Machine.execUnclassifiedGroup1110 low s
  | .unclassifiedGroup1111 low => Sys2Proof.Machine.execUnclassifiedGroup1111 low s
  | .unclassifiedMisc0000 low => Sys2Proof.Machine.execUnclassifiedMisc0000 low s
  | .unclassifiedMisc0010 low => Sys2Proof.Machine.execUnclassifiedMisc0010 low s
  | .unclassifiedMisc0100 low => Sys2Proof.Machine.execUnclassifiedMisc0100 low s
  | .unclassifiedMisc0101 low => Sys2Proof.Machine.execUnclassifiedMisc0101 low s
  | .unclassifiedMisc0110 low => Sys2Proof.Machine.execUnclassifiedMisc0110 low s
  | .unclassifiedMisc1010 low => Sys2Proof.Machine.execUnclassifiedMisc1010 low s
  | .unclassifiedMisc1100 low => Sys2Proof.Machine.execUnclassifiedMisc1100 low s
  | .unclassifiedMisc1101 low => Sys2Proof.Machine.execUnclassifiedMisc1101 low s
  | .unclassifiedMisc1110 low => Sys2Proof.Machine.execUnclassifiedMisc1110 low s
  | .unclassifiedMisc1111 low => Sys2Proof.Machine.execUnclassifiedMisc1111 low s

end Sys2Proof.Machine
end

