-- ==== Sys2Proof/Machine/Step.lean ====
section
/-! DEFINITION. One step: the next operation the caller presents, from its inputs to its outcome, atomically
(70_reset_and_hazards.md R135). A word is decoded to its instruction, which `exec` then runs. -/

namespace Sys2Proof.Machine

/-- One step. With nothing presented the inputs do not change, so neither do the outputs (R135; DESIGN CHOICE, log
entry 20). -/
def step (s : State) : Host.Outcome State Fault Refusal :=
  match s.pending with
  | [] => .next s
  | .decode w :: rest => exec (decodeInstr w) (setPending rest s)
  | .stream b0 b1 :: rest => hardStop (exec (decodeInstr (wordOfBytes b0 b1)) (setPending rest s))
  | .encodePorts tag cond field :: rest => .next (opEncodePorts tag cond field (setPending rest s))
  | .encode v :: rest => .next (opEncode v (setPending rest s))
  | .fromMask m :: rest => .next (opFromMask m (setPending rest s))
  | .toMask c :: rest => .next (opToMask c (setPending rest s))
  | .fromMnemonic text :: rest => .next (opFromMnemonic text (setPending rest s))
  | .toMnemonic c :: rest => .next (opToMnemonic c (setPending rest s))
  | .allAt k :: rest => .next (opAllAt k (setPending rest s))
  | .all :: rest => .next (opAll (setPending rest s))

/-- The word whose bits are `w` presented on `dec_word` as the very next operation (log entry 4). -/
def State.withFetchWord (s : State) (nbits w : Nat) : State :=
  setPending (.decode (tableWord nbits w) :: s.pending) s

end Sys2Proof.Machine
end

