-- ==== Sys2Proof/Safety.lean ====
section
/-! DEFINITION. What claims about runs of the block are stated with: the outcome of an operation as a function of its
inputs alone (00_scope.md R17), the combinational invariant of the ports (70_reset_and_hazards.md R135), and which
outcomes an operation may give at all (60_exceptions.md R113). -/

namespace Sys2Proof.Machine

/-- The outcome of an operation as a function of its inputs alone (R17): the unit's own function of them. -/
def respond : Request → Response
  | .decode w => .decoded (decode w)
  | .stream b0 b1 => .decoded (decode (wordOfBytes b0 b1))
  | .encodePorts tag cond field => .encoded (encodePorts tag cond field)
  | .encode v => .encoded (encode v)
  | .fromMask m => .fromMask (fromMask m)
  | .toMask c => .toMask (Sys2Proof.toMask c)
  | .fromMnemonic s => .fromMnemonic (fromMnemonic s)
  | .toMnemonic c => .toMnemonic (toMnemonic c)
  | .allAt k => .allAt (condOfMask k)
  | .all => .all allConds

/-- The caller is a loop over a stream, which stops at an `Unclassified` word (R122). -/
def Request.isStream : Request → Bool
  | .stream _ _ => true
  | .decode _ | .encodePorts _ _ _ | .encode _ | .fromMask _ | .toMask _ | .fromMnemonic _ | .toMnemonic _
  | .allAt _ | .all => false

/-- Every output wire is its unit's function of the unit's input wires (10_state.md R27 to R31, R135). -/
abbrev Combinational (s : State) : Prop :=
  s.dec = decPorts s.dec.word (decode s.dec.word) ∧
  s.enc = encPorts s.enc.tag s.enc.cond s.enc.field (encodePorts s.enc.tag s.enc.cond s.enc.field) ∧
  s.fm = fmPorts s.fm.m (fromMask s.fm.m) ∧
  s.toMask = toMaskPorts s.toMask.cond ∧
  s.tm = tmPorts s.tm.cond ∧
  s.fn = fnPorts s.fn.text (fromMnemonic s.fn.text) ∧
  s.all = allPorts s.all.k

/-- The outcomes an operation may give: a decode a variant other than `Unpredictable` or `Unclassified` of a word
(41_decode.md R89, R94), an encode a word some variant is decoded from, `Unencodable(Unpredictable)` or
`IllFormedVariant` (42_encode.md R109, 60_exceptions.md R116, R119), a lookup a condition or its own error (R117, R118). -/
def Response.Permitted : Response → Prop
  | .decoded (.ok v) => v.val ≠ .unpredictable
  | .decoded (.raise e) => ∃ level w, e = .unclassified level w
  | .encoded (.ok w) => ∃ v, decode w = .ok v
  | .encoded (.raise e) => e = .unencodable .unpredictable ∨ ∃ x, e = .illFormedVariant x
  | .fromMask (.ok _) => True
  | .fromMask (.raise e) => ∃ m, 16 ≤ m ∧ e = .maskOutOfRange m
  | .toMask _ => True
  | .fromMnemonic (.ok c) => c ≠ .nv
  | .fromMnemonic (.raise e) => ∃ text, e = .unrecognizedMnemonic text
  | .toMnemonic text => text = [] ∨ text.length = 2
  | .allAt _ => True
  | .all cs => cs.length = 16

/-- Every outcome the caller has received is one the block may give. -/
def OutcomesPermitted (s : State) : Prop := ∀ r ∈ s.outcomes, r.Permitted

end Sys2Proof.Machine
end

