-- ==== Sys2Proof/Certificates/Slice0/Obligations.lean ====
section
/-! DEFINITION. The statements about the model. Each docstring names the rule of spec/ it formalises. Values are written
out here from the spec, as numbers, and not through the functions the meanings use. -/

namespace Sys2Proof.Claims

open Sys2Proof.Machine

/-- `sext_8` of a byte, in the words of 00_scope.md R13. -/
def signed (b : Byte) : Int := if b.toNat < 128 then (b.toNat : Int) else (b.toNat : Int) - 256

/-- The decoder gives the variant whose term is `v`. -/
def DecodesTo (w : Word) (v : VariantTerm) : Prop := ∃ u : Variant, u.val = v ∧ decode w = .ok u

/-- `exec i s` completes: the decoder's ports hold the word numbered `n`, no error, and the tag, condition and field
given; the caller has received `ok` of the variant `v`; every other port, and what is pending, is as in `s`. -/
def Delivers (i : Instr) (s : State) (n : Nat) (v : VariantTerm) (tag : BitVec 3) (cond : Nibble) (field : Byte) : Prop :=
  ∃ u : Variant, u.val = v ∧
    exec i s = .next { s with
      dec := { word := BitVec.ofNat 16 n, err := 0#1, errCode := 0#4,
               out := some { tag := tag, cond := cond, field := field } }
      outcomes := s.outcomes ++ [.decoded (.ok u)] }

/-- `exec i s` completes: the decoder's ports hold the word numbered `n`, `dec_err` 1 with code 3 and no variant; the
caller has received `raise Unclassified(level, word)`; every other port, and what is pending, is as in `s`. -/
def Raises (i : Instr) (s : State) (level : Level) (n : Nat) : Prop :=
  exec i s = .next { s with
    dec := { word := BitVec.ofNat 16 n, err := 1#1, errCode := 3#4, out := none }
    outcomes := s.outcomes ++ [.decoded (.raise (.unclassified level (BitVec.ofNat 16 n)))] }

/-- The operation uses the decoder's ports. -/
def usesDecoder : Request → Bool
  | .decode _ | .stream _ _ => true
  | .encodePorts _ _ _ | .encode _ | .fromMask _ | .toMask _ | .fromMnemonic _ | .toMnemonic _ | .allAt _ | .all => false

/-- The operation uses the encoder's ports. -/
def usesEncoder : Request → Bool
  | .encodePorts _ _ _ => true
  | .decode _ | .stream _ _ | .encode _ | .fromMask _ | .toMask _ | .fromMnemonic _ | .toMnemonic _ | .allAt _ | .all =>
    false

/-- The canonical mnemonics of R76 as ASCII bytes, in mask order. -/
def canonicalTable : List (Cond × List Byte) :=
  [(.eq, [0x65, 0x71]), (.ne, [0x6E, 0x65]), (.cs, [0x63, 0x73]), (.cc, [0x63, 0x63]), (.mi, [0x6D, 0x69]),
   (.pl, [0x70, 0x6C]), (.vs, [0x76, 0x73]), (.vc, [0x76, 0x63]), (.hi, [0x68, 0x69]), (.ls, [0x6C, 0x73]),
   (.ge, [0x67, 0x65]), (.lt, [0x6C, 0x74]), (.gt, [0x67, 0x74]), (.le, [0x6C, 0x65]), (.al, [0x61, 0x6C]), (.nv, [])]

/-- `hs` and `lo`, the two accepted strings that are not canonical (R76). -/
def secondSpellings : List (Cond × List Byte) := [(.cs, [0x68, 0x73]), (.cc, [0x6C, 0x6F])]

/-- The sub-groups of group `0b1011` that classify (R53, R85). -/
def reservedSubs : List Nat := [0b0001, 0b0011, 0b0111, 0b1000, 0b1001, 0b1011]

end Sys2Proof.Claims

open Sys2Proof Sys2Proof.Machine Sys2Proof.Claims

/-- 41_decode.md R87 for the rows `CondBranch[EQ]` to `CondBranch[LE]`: the result, that the instruction completes, and its
frame. The port values rest on the spec's decision D2, but for `dec_err_code` 0 beside a value, the model's reading of the
table of R113 (DEDUCED, log entry 12); that State holds the ports is the model's choice (log entry 1). -/
def Obligations.CondBranchRowsDeliver : Prop :=
  ∀ (b : Byte) (s : State),
    Delivers (.condBranchEQ b) s (0xD000 + b.toNat) (.condBranch .eq (signed b)) 0#3 0#4 b ∧
    Delivers (.condBranchNE b) s (0xD100 + b.toNat) (.condBranch .ne (signed b)) 0#3 1#4 b ∧
    Delivers (.condBranchCS b) s (0xD200 + b.toNat) (.condBranch .cs (signed b)) 0#3 2#4 b ∧
    Delivers (.condBranchCC b) s (0xD300 + b.toNat) (.condBranch .cc (signed b)) 0#3 3#4 b ∧
    Delivers (.condBranchMI b) s (0xD400 + b.toNat) (.condBranch .mi (signed b)) 0#3 4#4 b ∧
    Delivers (.condBranchPL b) s (0xD500 + b.toNat) (.condBranch .pl (signed b)) 0#3 5#4 b ∧
    Delivers (.condBranchVS b) s (0xD600 + b.toNat) (.condBranch .vs (signed b)) 0#3 6#4 b ∧
    Delivers (.condBranchVC b) s (0xD700 + b.toNat) (.condBranch .vc (signed b)) 0#3 7#4 b ∧
    Delivers (.condBranchHI b) s (0xD800 + b.toNat) (.condBranch .hi (signed b)) 0#3 8#4 b ∧
    Delivers (.condBranchLS b) s (0xD900 + b.toNat) (.condBranch .ls (signed b)) 0#3 9#4 b ∧
    Delivers (.condBranchGE b) s (0xDA00 + b.toNat) (.condBranch .ge (signed b)) 0#3 10#4 b ∧
    Delivers (.condBranchLT b) s (0xDB00 + b.toNat) (.condBranch .lt (signed b)) 0#3 11#4 b ∧
    Delivers (.condBranchGT b) s (0xDC00 + b.toNat) (.condBranch .gt (signed b)) 0#3 12#4 b ∧
    Delivers (.condBranchLE b) s (0xDD00 + b.toNat) (.condBranch .le (signed b)) 0#3 13#4 b

/-- 41_decode.md R88, 60_exceptions.md R125. Port values by the spec's decision D2, but for `dec_err_code` 0 beside a value, the
model's reading of R113 (DEDUCED, log entry 12); State holds the ports by log entry 1. -/
def Obligations.SoftwareInterruptRowDelivers : Prop :=
  ∀ (b : Byte) (s : State), Delivers (.softwareInterrupt b) s (0xDF00 + b.toNat) (.softwareInterrupt b.toNat) 1#3 0#4 b

/-- 41_decode.md R90, R91; 60_exceptions.md R114: results, not errors. Port values by decision D2, but for `dec_err_code` 0 beside
a value, the model's reading of R113 (DEDUCED, log entry 12); State holds the ports by log entry 1. -/
def Obligations.UndefinedRowsDeliver : Prop :=
  ∀ (b : Byte) (s : State),
    Delivers (.undefinedPermanent b) s (0xDE00 + b.toNat) .undefinedPermanent 2#3 0#4 0#8 ∧
    Delivers (.undefinedReserved0001 b) s (0xB100 + b.toNat) .undefinedReserved 3#3 0#4 0#8 ∧
    Delivers (.undefinedReserved0011 b) s (0xB300 + b.toNat) .undefinedReserved 3#3 0#4 0#8 ∧
    Delivers (.undefinedReserved0111 b) s (0xB700 + b.toNat) .undefinedReserved 3#3 0#4 0#8 ∧
    Delivers (.undefinedReserved1000 b) s (0xB800 + b.toNat) .undefinedReserved 3#3 0#4 0#8 ∧
    Delivers (.undefinedReserved1001 b) s (0xB900 + b.toNat) .undefinedReserved 3#3 0#4 0#8 ∧
    Delivers (.undefinedReserved1011 b) s (0xBB00 + b.toNat) .undefinedReserved 3#3 0#4 0#8

/-- 41_decode.md R84, 60_exceptions.md R115, R121: the error is the whole outcome (R111). The code rests on decision D3, the
ports on D2; that the error is delivered as a next state is log entry 5. -/
def Obligations.UnclassifiedGroupRowsRaise : Prop :=
  ∀ (x : BitVec 12) (s : State),
    Raises (.unclassifiedGroup0000 x) s .top (0x0000 + x.toNat) ∧
    Raises (.unclassifiedGroup0001 x) s .top (0x1000 + x.toNat) ∧
    Raises (.unclassifiedGroup0010 x) s .top (0x2000 + x.toNat) ∧
    Raises (.unclassifiedGroup0011 x) s .top (0x3000 + x.toNat) ∧
    Raises (.unclassifiedGroup0100 x) s .top (0x4000 + x.toNat) ∧
    Raises (.unclassifiedGroup0101 x) s .top (0x5000 + x.toNat) ∧
    Raises (.unclassifiedGroup0110 x) s .top (0x6000 + x.toNat) ∧
    Raises (.unclassifiedGroup0111 x) s .top (0x7000 + x.toNat) ∧
    Raises (.unclassifiedGroup1000 x) s .top (0x8000 + x.toNat) ∧
    Raises (.unclassifiedGroup1001 x) s .top (0x9000 + x.toNat) ∧
    Raises (.unclassifiedGroup1010 x) s .top (0xA000 + x.toNat) ∧
    Raises (.unclassifiedGroup1100 x) s .top (0xC000 + x.toNat) ∧
    Raises (.unclassifiedGroup1110 x) s .top (0xE000 + x.toNat) ∧
    Raises (.unclassifiedGroup1111 x) s .top (0xF000 + x.toNat)

/-- 41_decode.md R85, 60_exceptions.md R115, R121. Codes by D3, ports by D2; a next state by log entry 5. -/
def Obligations.UnclassifiedSubGroupRowsRaise : Prop :=
  ∀ (b : Byte) (s : State),
    Raises (.unclassifiedMisc0000 b) s .misc (0xB000 + b.toNat) ∧
    Raises (.unclassifiedMisc0010 b) s .misc (0xB200 + b.toNat) ∧
    Raises (.unclassifiedMisc0100 b) s .misc (0xB400 + b.toNat) ∧
    Raises (.unclassifiedMisc0101 b) s .misc (0xB500 + b.toNat) ∧
    Raises (.unclassifiedMisc0110 b) s .misc (0xB600 + b.toNat) ∧
    Raises (.unclassifiedMisc1010 b) s .misc (0xBA00 + b.toNat) ∧
    Raises (.unclassifiedMisc1100 b) s .misc (0xBC00 + b.toNat) ∧
    Raises (.unclassifiedMisc1101 b) s .misc (0xBD00 + b.toNat) ∧
    Raises (.unclassifiedMisc1110 b) s .misc (0xBE00 + b.toNat) ∧
    Raises (.unclassifiedMisc1111 b) s .misc (0xBF00 + b.toNat)

/-- 42_encode.md R103, 60_exceptions.md R116. That this is the meaning of the row is the model's reading (log entry 7); codes
and ports by decisions D3 and D2. -/
def Obligations.UnpredictableRowRaisesUnencodable : Prop :=
  ∀ s : State, exec .unpredictable s = .next { s with
    enc := { s.enc with tag := 4#3, err := 1#1, errCode := 4#4, word := none }
    outcomes := s.outcomes ++ [.encoded (.raise (.unencodable .unpredictable))] }

/-- Each operation is one atomic step (R135, R27). The queue and the empty step are the model's choice (log entries 2 and 20). The
second clause is a caller loop over a stream: that it stops, by `hardStop` around `exec`, rests on 60_exceptions.md R122 with
decision D13 (log entry 5), and that its bytes form a word little-endian on 20_memory.md R40 with D12 (log entry 16). -/
def Obligations.StepRunsDecodedInstruction : Prop :=
  ∀ (s : State) (rest : List Request),
    (∀ w, step { s with pending := .decode w :: rest } = exec (decodeInstr w) { s with pending := rest }) ∧
    (∀ b0 b1 i, decodeBytes [b0, b1] = .ok (i, []) →
      step { s with pending := .stream b0 b1 :: rest } = hardStop (exec i { s with pending := rest })) ∧
    step { s with pending := [] } = .next { s with pending := [] }

/-- How a program comes to run (log entry 4). -/
def Obligations.FetchedTableWordRuns : Prop :=
  ∀ (s : State) (nbits w : Nat) (i : Instr),
    decodeTableWord nbits w = some i → step (s.withFetchWord nbits w) = exec i s

/-- Vectors S6, S8 and sections 2.5 to 2.7 of 95_test_vectors.md. -/
def Obligations.SpecWordsDecodeToTheirRows : Prop :=
  decodeInstr 0b1101000011111110#16 = .condBranchEQ 0xFE#8 ∧
  decodeInstr 0b1101110110000000#16 = .condBranchLE 0x80#8 ∧
  decodeInstr 0b1101111001011010#16 = .undefinedPermanent 0x5A#8 ∧
  decodeInstr 0b1101111100000101#16 = .softwareInterrupt 5#8 ∧
  decodeInstr 0b1011100111000011#16 = .undefinedReserved1001 0xC3#8 ∧
  decodeInstr 0b1011111100000000#16 = .unclassifiedMisc1111 0#8 ∧
  decodeInstr 0b0001001000110100#16 = .unclassifiedGroup0001 0x234#12

/-- The 46 rows of opcode_table.json with a word, each with its own meaning, together are the dispatcher of 41_decode.md R83
(`decode`, written from the rule's pseudocode). That an unclassified word's error is delivered in a next state is the model's
reading of 60_exceptions.md R121 (DEDUCED, log entry 5); ports by decision D2, State holds them by log entry 1, and code 0
beside a value is log entry 12. -/
def Obligations.ExecOfDecodedWordIsDispatcher : Prop :=
  ∀ (w : Word) (s : State), exec (decodeInstr w) s = .next { s with
    dec := decPorts w (decode w)
    outcomes := s.outcomes ++ [.decoded (decode w)] }

/-- 41_decode.md R83, whole, with every field written as an arithmetic expression in the word's number. -/
def Obligations.DecodeDispatchesOnFields : Prop :=
  ∀ w : Word,
    (w.toNat / 4096 = 11 → w.toNat / 256 % 16 ∈ reservedSubs → DecodesTo w .undefinedReserved) ∧
    (w.toNat / 4096 = 11 → w.toNat / 256 % 16 ∉ reservedSubs → decode w = .raise (.unclassified .misc w)) ∧
    (w.toNat / 4096 = 13 → w.toNat / 256 % 16 = 14 → DecodesTo w .undefinedPermanent) ∧
    (w.toNat / 4096 = 13 → w.toNat / 256 % 16 = 15 → DecodesTo w (.softwareInterrupt (w.toNat % 256 : Nat))) ∧
    (w.toNat / 4096 = 13 → w.toNat / 256 % 16 < 14 →
      ∃ c, (toMask c).toNat = w.toNat / 256 % 16 ∧ DecodesTo w (.condBranch c (signed (BitVec.ofNat 8 w.toNat)))) ∧
    (w.toNat / 4096 ≠ 11 → w.toNat / 4096 ≠ 13 → decode w = .raise (.unclassified .top w))

/-- 41_decode.md R84 and R85. -/
def Obligations.UnclassifiedWordsRaise : Prop :=
  ∀ w x : Word,
    (decode w = .raise (.unclassified .top x) ↔ x = w ∧ w.toNat / 4096 ≠ 11 ∧ w.toNat / 4096 ≠ 13) ∧
    (decode w = .raise (.unclassified .misc x) ↔
      x = w ∧ w.toNat / 4096 = 11 ∧ w.toNat / 256 % 16 ∉ reservedSubs) ∧
    (DecodesTo w .undefinedReserved ↔ w.toNat / 4096 = 11 ∧ w.toNat / 256 % 16 ∈ reservedSubs)

/-- 30_encoding.md R60. -/
def Obligations.PermanentlyUndefinedSpace : Prop :=
  ∀ w : Word, DecodesTo w .undefinedPermanent ↔ 0xDE00 ≤ w.toNat ∧ w.toNat ≤ 0xDEFF

/-- 30_encoding.md R61 and 42_encode.md R99. Which word is canonical is the spec's decision D4; the statement holds of
whichever word the model encodes. -/
def Obligations.ReservedSpaceAndCanonicalWord : Prop :=
  (∀ w : Word, DecodesTo w .undefinedReserved ↔
    (0xB100 ≤ w.toNat ∧ w.toNat ≤ 0xB1FF) ∨ (0xB300 ≤ w.toNat ∧ w.toNat ≤ 0xB3FF) ∨
    (0xB700 ≤ w.toNat ∧ w.toNat ≤ 0xB7FF) ∨ (0xB800 ≤ w.toNat ∧ w.toNat ≤ 0xB8FF) ∨
    (0xB900 ≤ w.toNat ∧ w.toNat ≤ 0xB9FF) ∨ (0xBB00 ≤ w.toNat ∧ w.toNat ≤ 0xBBFF)) ∧
  ∃ w, encode .undefinedReserved = .ok w ∧ DecodesTo w .undefinedReserved

/-- 30_encoding.md R63. -/
def Obligations.UnpredictableHasNoWord : Prop :=
  ∀ w : Word, ¬ DecodesTo w .unpredictable ∧ decodeInstr w ≠ .unpredictable ∧ encode .unpredictable ≠ .ok w

/-- 41_decode.md section 3, an inference the spec marks as its own (R94). -/
def Obligations.DecodeTotalOneErrorKind : Prop :=
  ∀ w : Word, (∃ v : Variant, v.val ≠ .unpredictable ∧ decode w = .ok v) ∨
    ∃ level, decode w = .raise (.unclassified level w)

/-- 41_decode.md section 3, an inference the spec marks as its own (R95). -/
def Obligations.BranchAndInterruptWordsDetermined : Prop :=
  ∀ v : Variant, ((∃ c o, v.val = .condBranch c o) ∨ ∃ i, v.val = .softwareInterrupt i) →
    ∃ w, decode w = .ok v ∧ ∀ w', decode w' = .ok v → w' = w

/-- 30_encoding.md section 3, an inference the spec marks as its own (R58, R59); the rows are those of opcode_table.json. -/
def Obligations.TableRowsPartitionWords : Prop :=
  ∀ w : Word, ∃ r ∈ opcodeRows, r.covers w = true ∧ r.mnemonic = (decodeInstr w).mnemonic ∧
    ∀ r' ∈ opcodeRows, r'.covers w = true → r' = r

/-- 30_encoding.md section 3 (R58, R59) and 95_test_vectors.md section 2.7; the tags are the spec's decision D2. -/
def Obligations.WordCountsOfOutcomes : Prop :=
  let tagCount (t : BitVec 3) : Nat := (List.range 65536).countP fun n =>
    ((decPorts (BitVec.ofNat 16 n) (decode (BitVec.ofNat 16 n))).out.map DecOut.tag == some t)
  tagCount 0#3 = 3584 ∧ tagCount 1#3 = 256 ∧ tagCount 2#3 = 256 ∧ tagCount 3#3 = 1536 ∧ tagCount 4#3 = 0 ∧
  ((List.range 65536).countP fun n => (decPorts (BitVec.ofNat 16 n) (decode (BitVec.ofNat 16 n))).err == 1#1) = 59904

/-- 10_state.md R27 over all words; the ports are the spec's decision D2, the codes D3; code 0 beside a value is log entry 12. -/
def Obligations.DecoderPortsFollowOutcome : Prop :=
  ∀ w : Word, decPorts w (decode w) =
    if 0xD000 ≤ w.toNat ∧ w.toNat ≤ 0xDDFF then
      { word := w, err := 0#1, errCode := 0#4,
        out := some { tag := 0#3, cond := BitVec.ofNat 4 (w.toNat / 256), field := BitVec.ofNat 8 w.toNat } }
    else if 0xDF00 ≤ w.toNat ∧ w.toNat ≤ 0xDFFF then
      { word := w, err := 0#1, errCode := 0#4, out := some { tag := 1#3, cond := 0#4, field := BitVec.ofNat 8 w.toNat } }
    else if 0xDE00 ≤ w.toNat ∧ w.toNat ≤ 0xDEFF then
      { word := w, err := 0#1, errCode := 0#4, out := some { tag := 2#3, cond := 0#4, field := 0#8 } }
    else if w.toNat / 4096 = 11 ∧ w.toNat / 256 % 16 ∈ reservedSubs then
      { word := w, err := 0#1, errCode := 0#4, out := some { tag := 3#3, cond := 0#4, field := 0#8 } }
    else { word := w, err := 1#1, errCode := 3#4, out := none }

/-- 60_exceptions.md R114. No word gives Unpredictable (R63), so that case is empty. -/
def Obligations.UndefinedWordsAreResults : Prop :=
  ∀ (w : Word) (v : VariantTerm) (s : State) (rest : List Request),
    v = .undefinedPermanent ∨ v = .undefinedReserved ∨ v = .unpredictable → DecodesTo w v →
    (∃ t, exec (decodeInstr w) s = .next t ∧ t.dec.err = 0#1) ∧
    ∃ t, step { s with pending := .decode w :: rest } = .next t ∧ t.dec.err = 0#1

/-- 30_encoding.md R56. -/
def Obligations.BranchOffsetIsSignedLowByte : Prop :=
  (∀ (w : Word) (c : Cond) (o : Int), DecodesTo w (.condBranch c o) →
    o = (if w.toNat % 256 < 128 then (w.toNat % 256 : Int) else (w.toNat % 256 : Int) - 256) ∧ -128 ≤ o ∧ o ≤ 127) ∧
  ∀ (c : Cond) (o : Int), c ≠ .al → c ≠ .nv → -128 ≤ o → o ≤ 127 →
    ∃ w, encode (.condBranch c o) = .ok w ∧ (w.toNat % 256 : Int) = o % 256

/-- 30_encoding.md R57. -/
def Obligations.InterruptImmediateIsLowByte : Prop :=
  (∀ (w : Word) (i : Int), DecodesTo w (.softwareInterrupt i) → i = (w.toNat % 256 : Nat) ∧ 0 ≤ i ∧ i ≤ 255) ∧
  ∀ i : Int, 0 ≤ i → i ≤ 255 → ∃ w, encode (.softwareInterrupt i) = .ok w ∧ (w.toNat % 256 : Nat) = i

/-- 42_encode.md R100, with the refusal of its Exceptions line (the spec's decision D11); the prefix is the spec's inference. -/
def Obligations.EncodeBranchWord : Prop :=
  ∀ (c : Cond) (o : Int), encode (.condBranch c o) =
    if c ≠ .al ∧ c ≠ .nv ∧ -128 ≤ o ∧ o ≤ 127 then
      .ok (BitVec.ofNat 16 (0xD000 + 256 * (toMask c).toNat + (o % 256).toNat))
    else .raise (.illFormedVariant (.term (.condBranch c o)))

/-- 42_encode.md R101, with the refusal of its Exceptions line (the spec's decision D11); the prefix is the spec's inference. -/
def Obligations.EncodeInterruptWord : Prop :=
  ∀ i : Int, encode (.softwareInterrupt i) =
    if 0 ≤ i ∧ i ≤ 255 then .ok (BitVec.ofNat 16 (0xDF00 + i.toNat))
    else .raise (.illFormedVariant (.term (.softwareInterrupt i)))

/-- 42_encode.md R98, R102, R103. Which words are canonical is the spec's decision (D4, D5, log entry 8): the first clause is
the form that names none. -/
def Obligations.EncodeEmptyVariants : Prop :=
  (∀ r p : Word, encodeWith r p .undefinedReserved = .ok r ∧ encodeWith r p .undefinedPermanent = .ok p ∧
    encodeWith r p .unpredictable = .raise (.unencodable .unpredictable)) ∧
  encode .undefinedReserved = .ok 0xB100#16 ∧ encode .undefinedPermanent = .ok 0xDE00#16 ∧
  encode .unpredictable = .raise (.unencodable .unpredictable)

/-- 42_encode.md R104, 60_exceptions.md R119; refusing instead of masking is the spec's decision D11. -/
def Obligations.IllFormedInputsRefused : Prop :=
  ∀ (v : VariantTerm) (x : EncInput), encode v = .raise (.illFormedVariant x) ↔ x = .term v ∧
    ((∃ c o, v = .condBranch c o ∧ (c = .al ∨ c = .nv ∨ o < -128 ∨ 127 < o)) ∨
      ∃ i, v = .softwareInterrupt i ∧ (i < 0 ∨ 255 < i))

/-- 60_exceptions.md R116. -/
def Obligations.UnencodableOnlyForUnpredictable : Prop :=
  ∀ v x : VariantTerm, encode v = .raise (.unencodable x) ↔ v = .unpredictable ∧ x = .unpredictable

/-- 42_encode.md R105, in the argument form that names no canonical word (R99, D4, D5), and for the decided words. -/
def Obligations.DecodeEncodeRoundTrip : Prop :=
  (∀ (r p : Word), DecodesTo r .undefinedReserved → DecodesTo p .undefinedPermanent →
    ∀ v : Variant, v.val ≠ .unpredictable → ∃ w, encodeWith r p v.val = .ok w ∧ decode w = .ok v) ∧
  ∀ v : Variant, v.val ≠ .unpredictable → ∃ w, encode v.val = .ok w ∧ decode w = .ok v

/-- 42_encode.md section 3, an inference the spec marks as its own (R106); the words 0xDE00 and 0xB100 are decisions D5 and D4. -/
def Obligations.EncodeOfDecodeFixesExactlyTheseWords : Prop :=
  ∀ w : Word, (∃ v : Variant, decode w = .ok v ∧ encode v.val = .ok w) ↔
    (0xD000 ≤ w.toNat ∧ w.toNat ≤ 0xDDFF) ∨ (0xDF00 ≤ w.toNat ∧ w.toNat ≤ 0xDFFF) ∨ w.toNat = 0xDE00 ∨ w.toNat = 0xB100

/-- 42_encode.md section 3, an inference the spec marks as its own (R108, R106), with the canonical words as arguments. -/
def Obligations.CollapsedWordsBecomeCanonical : Prop :=
  ∀ (r p w : Word) (v : Variant), decode w = .ok v →
    encodeWith r p v.val = .ok (if v.val = .undefinedReserved then r else if v.val = .undefinedPermanent then p else w)

/-- 42_encode.md section 3, an inference the spec marks as its own (R107). -/
def Obligations.EncodeInjective : Prop :=
  ∀ (u v : VariantTerm) (w : Word), encode u = .ok w → encode v = .ok w → u = v

/-- 42_encode.md section 3, an inference the spec marks as its own (R109). -/
def Obligations.EncodedWordsAreClassified : Prop :=
  ∀ (v : VariantTerm) (w : Word), encode v = .ok w →
    (w.toNat / 4096 = 13 ∨ w.toNat / 4096 = 11 ∧ w.toNat / 256 % 16 ∈ reservedSubs) ∧ ∃ u, decode w = .ok u

/-- 10_state.md R28 and 60_exceptions.md R120; ports, codes and canonical words by the spec's decisions D2, D3, D4, D5, D11;
the queue by log entry 2, code 0 beside a value by log entry 12. -/
def Obligations.EncoderPortStepCompletes : Prop :=
  ∀ (s : State) (tag : BitVec 3) (cond : Nibble) (field : Byte) (rest : List Request), ∃ r : Result Word,
    step { s with pending := .encodePorts tag cond field :: rest } = .next { s with
      pending := rest
      enc :=
        if tag.toNat = 0 ∧ cond.toNat < 14 then
          ⟨tag, cond, field, 0#1, 0#4, some (BitVec.ofNat 16 (0xD000 + 256 * cond.toNat + field.toNat))⟩
        else if tag.toNat = 1 then ⟨tag, cond, field, 0#1, 0#4, some (BitVec.ofNat 16 (0xDF00 + field.toNat))⟩
        else if tag.toNat = 2 then ⟨tag, cond, field, 0#1, 0#4, some 0xDE00#16⟩
        else if tag.toNat = 3 then ⟨tag, cond, field, 0#1, 0#4, some 0xB100#16⟩
        else if tag.toNat = 4 then ⟨tag, cond, field, 1#1, 4#4, none⟩
        else ⟨tag, cond, field, 1#1, 5#4, none⟩
      outcomes := s.outcomes ++ [.encoded r] } ∧
    ((∃ w, r = .ok w) ↔ tag.toNat = 0 ∧ cond.toNat < 14 ∨ tag.toNat = 1 ∨ tag.toNat = 2 ∨ tag.toNat = 3)

/-- 30_encoding.md section 3: the rows of the table with their operands are a partition of the words (R58, R59, the spec's own
inference). Keeping the bits the decoder does not inspect is the model's choice (log entry 6). -/
def Obligations.InstructionWordRoundTrip : Prop :=
  (∀ i : Instr, (i.wellFormed = true ↔ ∃ w, encodeInstr i = some w) ∧
    ∀ w, encodeInstr i = some w → decodeInstr w = i) ∧
  ∀ w : Word, (decodeInstr w).wellFormed = true ∧ encodeInstr (decodeInstr w) = some w

/-- 40_condition_codes.md R73 and 60_exceptions.md R117. -/
def Obligations.FromMaskNeverClamps : Prop :=
  (∀ m : Nat, (m < 16 → ∃ c, fromMask m = .ok c ∧ (toMask c).toNat = m) ∧
    (16 ≤ m → fromMask m = .raise (.maskOutOfRange m)) ∧
    ∀ x, fromMask m = .raise (.maskOutOfRange x) ↔ 16 ≤ m ∧ x = m) ∧
  ∀ (w : Word) (x : Nat), decode w ≠ .raise (.maskOutOfRange x)

/-- 40_condition_codes.md R67. -/
def Obligations.MaskBijection : Prop :=
  (∀ c, (toMask c).toNat < 16) ∧ (∀ c d, toMask c = toMask d → c = d) ∧ ∀ m < 16, ∃ c, (toMask c).toNat = m

/-- 40_condition_codes.md R75, its second half an inference the spec marks as its own. -/
def Obligations.MaskRoundTrips : Prop :=
  (∀ m < 16, ∃ c, fromMask m = .ok c ∧ (toMask c).toNat = m) ∧ ∀ c, fromMask (toMask c).toNat = .ok c

/-- 40_condition_codes.md R76 and 10_state.md R23; names and strings are the spec's decision D6, from general knowledge (log
entry 9). -/
def Obligations.ConditionTable : Prop :=
  canonicalTable.length = 16 ∧
  ∀ k < 16, ∃ row ∈ canonicalTable[k]?, (toMask row.1).toNat = k ∧ toMnemonic row.1 = row.2

/-- 40_condition_codes.md R77 and R79, 60_exceptions.md R118; the strings are decision D6, exact matching D7 (log entries 9, 10). -/
def Obligations.FromMnemonicMatchesExactly : Prop :=
  ∀ text : List Byte,
    (∀ c, fromMnemonic text = .ok c ↔ text ≠ [] ∧ (c, text) ∈ canonicalTable ++ secondSpellings) ∧
    ((∀ c, text = [] ∨ (c, text) ∉ canonicalTable ++ secondSpellings) →
      fromMnemonic text = .raise (.unrecognizedMnemonic text))

/-- 60_exceptions.md R118. Which 17 strings are accepted is the spec's decision D6 (PRESUMED, log entry 9), and that every other
string is rejected rests on exact matching, decision D7 (log entry 10). -/
def Obligations.UnrecognizedMnemonicExactly : Prop :=
  ∀ text : List Byte, (∀ x, fromMnemonic text = .raise (.unrecognizedMnemonic x) ↔
      x = text ∧ text ∉ (canonicalTable.take 15 ++ secondSpellings).map Prod.snd) ∧
    ∀ e, fromMnemonic text = .raise e → e = .unrecognizedMnemonic text

/-- 40_condition_codes.md R68 (90_conflicts.md C3). R68 does not name the second spellings: that they are `hs` and `lo`, with `cs`
and `cc` canonical, and the strings themselves, are the table of R76, decision D6 (PRESUMED, log entry 9); that no further
string is accepted is exact matching, decision D7 (log entry 10). -/
def Obligations.CanonicalMnemonicsDistinct : Prop :=
  (∀ c d, toMnemonic c = toMnemonic d → c = d) ∧ (∀ c, toMnemonic c ≠ [] ↔ c ≠ .nv) ∧
  (∀ text c, fromMnemonic text = .ok c → text = toMnemonic c ∨ (c, text) ∈ secondSpellings) ∧
  ∀ row ∈ secondSpellings, fromMnemonic row.2 = .ok row.1 ∧ ∀ c, toMnemonic c ≠ row.2

/-- 40_condition_codes.md R69. -/
def Obligations.ExtensionMarkerHasNoMnemonic : Prop :=
  toMnemonic .nv = [] ∧ ∀ text : List Byte, fromMnemonic text ≠ .ok .nv

/-- 40_condition_codes.md R80, partly an inference the spec marks as its own; the strings, with `cs` and `cc` canonical, are
decision D6 (log entry 9), and that `from_mnemonic` of the empty string is rejected is decision D7 (log entry 10). -/
def Obligations.MnemonicRoundTrips : Prop :=
  (∀ c, c ≠ .nv → fromMnemonic (toMnemonic c) = .ok c) ∧
  fromMnemonic (toMnemonic .nv) = .raise (.unrecognizedMnemonic []) ∧
  ∀ text c, fromMnemonic text = .ok c →
    toMnemonic c = if text = [0x68, 0x73] then [0x63, 0x73] else if text = [0x6C, 0x6F] then [0x63, 0x63] else text

/-- 40_condition_codes.md R81, which lists the 16 names; most of the names are the spec's decision D6 (log entry 9). -/
def Obligations.AllListsConditionsInMaskOrder : Prop :=
  allConds = [.eq, .ne, .cs, .cc, .mi, .pl, .vs, .vc, .hi, .ls, .ge, .lt, .gt, .le, .al, .nv] ∧
  allConds.length = 16 ∧ allConds.Nodup ∧ ∀ k < 16, ∃ c ∈ allConds[k]?, fromMask k = .ok c

/-- 10_state.md R29 to R31; the ports are the spec's decision D2, the queue is log entry 2, all() without a port log entry 13. The
wires of to_mask and the condition wire of the `all` port have no names in the spec: they are the model's (DESIGN CHOICE, log
entry 14). That a failing lookup is delivered in a next state is log entry 5; State holds the ports by log entry 1. -/
def Obligations.ConditionUnitStepsComplete : Prop :=
  ∀ (s : State) (rest : List Request),
    (∀ m, step { s with pending := .fromMask m :: rest } = .next { s with
      pending := rest
      fm := if m < 16 then ⟨m, 0#1, some (BitVec.ofNat 4 m)⟩ else ⟨m, 1#1, none⟩
      outcomes := s.outcomes ++ [.fromMask (fromMask m)] }) ∧
    (∀ c, step { s with pending := .toMask c :: rest } = .next { s with
      pending := rest
      toMask := ⟨Sys2Proof.toMask c, Sys2Proof.toMask c⟩
      outcomes := s.outcomes ++ [.toMask (Sys2Proof.toMask c)] }) ∧
    (∀ text c, fromMnemonic text = .ok c → step { s with pending := .fromMnemonic text :: rest } = .next { s with
      pending := rest
      fn := ⟨text, 0#1, some (Sys2Proof.toMask c)⟩
      outcomes := s.outcomes ++ [.fromMnemonic (.ok c)] }) ∧
    (∀ text e, fromMnemonic text = .raise e → step { s with pending := .fromMnemonic text :: rest } = .next { s with
      pending := rest
      fn := ⟨text, 1#1, none⟩
      outcomes := s.outcomes ++ [.fromMnemonic (.raise e)] }) ∧
    (∀ c a b, toMnemonic c = [a, b] → step { s with pending := .toMnemonic c :: rest } = .next { s with
      pending := rest
      tm := ⟨Sys2Proof.toMask c, 2#2, a, b⟩
      outcomes := s.outcomes ++ [.toMnemonic [a, b]] }) ∧
    (step { s with pending := .toMnemonic .nv :: rest } = .next { s with
      pending := rest
      tm := ⟨15#4, 0#2, 0#8, 0#8⟩
      outcomes := s.outcomes ++ [.toMnemonic []] }) ∧
    (∀ k c, (Sys2Proof.toMask c) = k → step { s with pending := .allAt k :: rest } = .next { s with
      pending := rest
      all := ⟨k, k⟩
      outcomes := s.outcomes ++ [.allAt c] }) ∧
    step { s with pending := .all :: rest } = .next { s with
      pending := rest
      outcomes := s.outcomes ++ [.all allConds] }

/-- 60_exceptions.md R113; the numbers are the spec's decision D3. -/
def Obligations.ErrorCodes : Prop :=
  (∀ m, errCode (.maskOutOfRange m) = 1#4) ∧ (∀ text, errCode (.unrecognizedMnemonic text) = 2#4) ∧
  (∀ level w, errCode (.unclassified level w) = 3#4) ∧ (∀ v, errCode (.unencodable v) = 4#4) ∧
  ∀ x, errCode (.illFormedVariant x) = 5#4

/-- 10_state.md R22 (and 00_scope.md R17). That a stream halfword of an unclassified word is a fault is 60_exceptions.md R122 with
decision D13, and that any other error is delivered in a next state R121 (both log entry 5); the operations still to come are
the model's queue (log entry 2), and a stream's bytes form a word by log entry 16. -/
def Obligations.OutcomeIsFunctionOfInputsAlone : Prop :=
  (∀ r : Request, r.isStream = false → ∀ (s : State) (rest : List Request),
    ∃ t, step { s with pending := r :: rest } = .next t ∧ t.outcomes = s.outcomes ++ [respond r] ∧ t.pending = rest) ∧
  ∀ b0 b1 : Byte,
    (∀ v, decode (wordOfBytes b0 b1) = .ok v → ∀ (s : State) (rest : List Request),
      ∃ t, step { s with pending := .stream b0 b1 :: rest } = .next t ∧
        t.outcomes = s.outcomes ++ [.decoded (.ok v)] ∧ t.pending = rest) ∧
    ∀ level w, decode (wordOfBytes b0 b1) = .raise (.unclassified level w) → ∀ (s : State) (rest : List Request),
      step { s with pending := .stream b0 b1 :: rest } = .fault (.unclassified level w)

/-- 10_state.md R34: the decoder's use of from_mask is not visible on the condition-code unit's ports. That the wires of a unit
that is not used keep their values is the model's choice (log entry 1), as are the queue (log entry 2) and that `encode` of a
term and all() drive no port (log entry 13). -/
def Obligations.UnitsAreIndependent : Prop :=
  ∀ (s t : State) (r : Request) (rest : List Request), step { s with pending := r :: rest } = .next t →
    t.outcomes = s.outcomes ++ [respond r] ∧ t.pending = rest ∧
    (usesDecoder r = false → t.dec = s.dec) ∧ (usesEncoder r = false → t.enc = s.enc) ∧
    ((∀ m, r ≠ .fromMask m) → t.fm = s.fm) ∧ ((∀ c, r ≠ .toMask c) → t.toMask = s.toMask) ∧
    ((∀ c, r ≠ .toMnemonic c) → t.tm = s.tm) ∧ ((∀ x, r ≠ .fromMnemonic x) → t.fn = s.fn) ∧
    ((∀ k, r ≠ .allAt k) → t.all = s.all)

/-- 95_test_vectors.md section 3: the end state of a program is the list of outcomes the rules give; no outcome depends on an
earlier operation (R22, R46) and an error stops nothing else (R121). The queue is log entry 2, delivery of errors log entry 5. -/
def Obligations.RunDeliversEveryOutcomeInOrder : Prop :=
  ∀ (s : State) (rs : List Request), (∀ r ∈ rs, r.isStream = false) →
    ∃ t : State, Sys2Proof.core.run rs.length { s with pending := rs } = .next t ∧ t.pending = [] ∧
      t.outcomes = s.outcomes ++ rs.map respond

/-- 60_exceptions.md R122 (decision D13, log entry 5), the words formed little-endian (R40, decision D12). -/
def Obligations.StreamLoopStopsAtFirstUnclassified : Prop :=
  ∀ (s : State) (pre : List (Byte × Byte)) (b0 b1 : Byte) (rest : List Request),
    (∀ p ∈ pre, ∃ v, decode (BitVec.ofNat 16 (p.1.toNat + 256 * p.2.toNat)) = .ok v) →
    (∃ t : State, Sys2Proof.core.run pre.length { s with pending := pre.map (fun p => .stream p.1 p.2) ++ rest } = .next t ∧
      t.pending = rest ∧
      t.outcomes = s.outcomes ++ pre.map (fun p => .decoded (decode (BitVec.ofNat 16 (p.1.toNat + 256 * p.2.toNat))))) ∧
    ∀ level w, decode (BitVec.ofNat 16 (b0.toNat + 256 * b1.toNat)) = .raise (.unclassified level w) →
      ∀ k, pre.length < k →
        Sys2Proof.core.run k { s with pending := pre.map (fun p => .stream p.1 p.2) ++ .stream b0 b1 :: rest } =
          .fault (.unclassified level w)

/-- 60_exceptions.md R121, R122: every other error goes to the caller and the block goes on (log entry 5). -/
def Obligations.StepsStopOnlyAtUnclassifiedStreamWords : Prop :=
  ∀ s : State, (∀ x, step s ≠ .refused x) ∧
    ∀ level w, step s = .fault (.unclassified level w) ↔
      ∃ b0 b1 rest, s.pending = .stream b0 b1 :: rest ∧
        decode (BitVec.ofNat 16 (b0.toNat + 256 * b1.toNat)) = .raise (.unclassified level w)

/-- 70_reset_and_hazards.md R135 (decision D1): the block is combinational. State stores outputs beside inputs (log entry 1), so
that they agree is an invariant and not a definition. -/
def Obligations.PortsStayCombinational : Prop :=
  ∀ s t : State, Combinational s →
    (step s = .next t → Combinational t) ∧ ∀ i : Instr, exec i s = .next t → Combinational t

/-- 10_state.md R36. That the input wires are 0 and the queues empty at reset is the model's choice (log entry 3); the clause
holds of the values chosen. -/
def Obligations.ResetIsCombinational : Prop :=
  Combinational State.reset ∧ State.reset.pending = [] ∧ State.reset.outcomes = []

/-- 60_exceptions.md R113: which operation raises which error; 41_decode.md R89, R94 and 42_encode.md R109 on values, partly the
spec's own inferences. -/
def Obligations.OutcomesStayPermitted : Prop :=
  ∀ s t : State, OutcomesPermitted s →
    (step s = .next t → OutcomesPermitted t) ∧ ∀ i : Instr, exec i s = .next t → OutcomesPermitted t

/-- The base case of the invariant; nothing has been received at reset (log entry 3). -/
def Obligations.ResetOutcomesPermitted : Prop :=
  OutcomesPermitted State.reset

/-- 20_memory.md R40, the spec's own reading of its source (decision D12). -/
def Obligations.HalfwordIsLittleEndian : Prop :=
  (∀ b0 b1 : Byte, (wordOfBytes b0 b1).toNat = b0.toNat + 256 * b1.toNat) ∧
  (∀ w : Word, ∃ b0 b1, bytesOfWord w = [b0, b1] ∧ wordOfBytes b0 b1 = w) ∧
  ∀ b0 b1 : Byte, bytesOfWord (wordOfBytes b0 b1) = [b0, b1]

/-- 00_scope.md R13; that they are inverses is an inference the spec marks as its own. -/
def Obligations.SignExtensionInverses : Prop :=
  (∀ i : Int, -128 ≤ i → i ≤ 127 → sext8 (twos8 i) = i) ∧ (∀ b : Byte, twos8 (sext8 b) = b) ∧
  ∀ b : Byte, sext8 b = signed b
end

