-- ==== Sys2Proof/Laws/Decode.lean ====
section
/-! SUPPORT. The fields of words and the small lemmas of the decoder's and encoder's helpers. -/

namespace Sys2Proof

/-! ### Fields as numbers -/

theorem group_toNat (w : Word) : (group w).toNat = w.toNat / 4096 := by
  have := w.isLt
  simp [group, BitVec.extractLsb'_toNat, Nat.shiftRight_eq_div_pow]
  omega

theorem subGroup_toNat (w : Word) : (subGroup w).toNat = w.toNat / 256 % 16 := by
  simp [subGroup, BitVec.extractLsb'_toNat, Nat.shiftRight_eq_div_pow]

theorem lowByte_toNat (w : Word) : (lowByte w).toNat = w.toNat % 256 := by
  simp [lowByte, BitVec.extractLsb'_toNat]

theorem highByte_toNat (w : Word) : (highByte w).toNat = w.toNat / 256 := by
  have := w.isLt
  simp [highByte, BitVec.extractLsb'_toNat, Nat.shiftRight_eq_div_pow]
  omega

theorem lowTwelve_toNat (w : Word) : (lowTwelve w).toNat = w.toNat % 4096 := by
  simp [lowTwelve, BitVec.extractLsb'_toNat]

theorem wordOf_toNat (hi lo : Byte) : (wordOf hi lo).toNat = 256 * hi.toNat + lo.toNat := by
  have h1 := hi.isLt
  have h2 := lo.isLt
  have h : hi.toNat <<< 8 ||| lo.toNat = 256 * hi.toNat + lo.toNat := by
    rw [Nat.shiftLeft_eq, Nat.mul_comm, ← Nat.two_pow_add_eq_or_of_lt h2 hi.toNat]
  simp [wordOf, Nat.mod_eq_of_lt (show hi.toNat < 65536 by omega), Nat.mod_eq_of_lt (show lo.toNat < 65536 by omega),
    Nat.mod_eq_of_lt (show hi.toNat <<< 8 < 65536 by rw [Nat.shiftLeft_eq]; omega), h]

theorem groupWordOf_toNat (g : Nibble) (low : BitVec 12) :
    (groupWordOf g low).toNat = 4096 * g.toNat + low.toNat := by
  have h1 := g.isLt
  have h2 := low.isLt
  have h : g.toNat <<< 12 ||| low.toNat = 4096 * g.toNat + low.toNat := by
    rw [Nat.shiftLeft_eq, Nat.mul_comm, ← Nat.two_pow_add_eq_or_of_lt h2 g.toNat]
  simp [groupWordOf, Nat.mod_eq_of_lt (show g.toNat < 65536 by omega),
    Nat.mod_eq_of_lt (show low.toNat < 65536 by omega),
    Nat.mod_eq_of_lt (show g.toNat <<< 12 < 65536 by rw [Nat.shiftLeft_eq]; omega), h]

/-! ### Fields of words put together, and words put together from their fields -/

@[simp] theorem lowByte_wordOf (hi lo : Byte) : lowByte (wordOf hi lo) = lo := by
  apply BitVec.eq_of_toNat_eq
  have := lo.isLt
  rw [lowByte_toNat, wordOf_toNat]; omega

@[simp] theorem highByte_wordOf (hi lo : Byte) : highByte (wordOf hi lo) = hi := by
  apply BitVec.eq_of_toNat_eq
  have := lo.isLt
  rw [highByte_toNat, wordOf_toNat]; omega

theorem group_wordOf (hi lo : Byte) : group (wordOf hi lo) = BitVec.ofNat 4 (hi.toNat / 16) := by
  apply BitVec.eq_of_toNat_eq
  have := lo.isLt
  have := hi.isLt
  rw [group_toNat, wordOf_toNat, BitVec.toNat_ofNat]; omega

theorem subGroup_wordOf (hi lo : Byte) : subGroup (wordOf hi lo) = BitVec.ofNat 4 hi.toNat := by
  apply BitVec.eq_of_toNat_eq
  have := lo.isLt
  rw [subGroup_toNat, wordOf_toNat, BitVec.toNat_ofNat]; omega

@[simp] theorem group_groupWordOf (g : Nibble) (low : BitVec 12) : group (groupWordOf g low) = g := by
  apply BitVec.eq_of_toNat_eq
  have := low.isLt
  rw [group_toNat, groupWordOf_toNat]; omega

@[simp] theorem lowTwelve_groupWordOf (g : Nibble) (low : BitVec 12) : lowTwelve (groupWordOf g low) = low := by
  apply BitVec.eq_of_toNat_eq
  have := low.isLt
  rw [lowTwelve_toNat, groupWordOf_toNat]; omega

/-- A word is its high and its low byte. -/
theorem wordOf_highByte_lowByte (w : Word) : wordOf (highByte w) (lowByte w) = w := by
  apply BitVec.eq_of_toNat_eq
  rw [wordOf_toNat, highByte_toNat, lowByte_toNat]; omega

/-- A word is its group and its low twelve bits. -/
theorem groupWordOf_group_lowTwelve (w : Word) : groupWordOf (group w) (lowTwelve w) = w := by
  apply BitVec.eq_of_toNat_eq
  rw [groupWordOf_toNat, group_toNat, lowTwelve_toNat]; omega

/-- The word a caller forms from two bytes has them as its low and its high byte (R40). -/
theorem wordOfBytes_eq (b0 b1 : Byte) : wordOfBytes b0 b1 = wordOf b1 b0 := by
  simp only [wordOfBytes, wordOf, BitVec.or_comm]

/-- The bytes a caller writes for a word are the ones it forms the word from (R40). -/
theorem wordOfBytes_lowByte_highByte (w : Word) : wordOfBytes (lowByte w) (highByte w) = w := by
  rw [wordOfBytes_eq, wordOf_highByte_lowByte]

/-! ### The condition operand -/

/-- `from_mask` of a four-bit field never fails (R55). -/
@[simp] theorem fromMask_toNat (m : Nibble) : fromMask m.toNat = .ok (condOfMask m) := by
  have h : ¬ 16 ≤ m.toNat := by have := m.isLt; omega
  simp [fromMask, h]

@[simp] theorem condOfMask_toMask (c : Cond) : condOfMask (toMask c) = c := by cases c <;> rfl

@[simp] theorem toMask_condOfMask : ∀ m : Nibble, toMask (condOfMask m) = m := by decide

/-! ### Instructions and their words -/

/-- No word decodes to `Unpredictable` (30_encoding.md R63). -/
theorem decodeInstr_ne_unpredictable (w : Word) : decodeInstr w ≠ .unpredictable := by
  unfold decodeInstr
  split <;> first | (intro h; cases h) | skip
  · unfold decodeMiscRow; split <;> intro h <;> cases h
  · unfold decodeCbSwiRow; split <;> intro h <;> cases h

/-- A word of group `0b1101` is dispatched on its condition mask. -/
theorem decodeInstr_cbSwi (hi lo : Byte) (h : hi.toNat / 16 = 13) :
    decodeInstr (wordOf hi lo) = decodeCbSwiRow (BitVec.ofNat 4 hi.toNat) lo := by
  simp [decodeInstr, group_wordOf, subGroup_wordOf, h]

/-- A word of group `0b1011` is dispatched on its sub-group. -/
theorem decodeInstr_misc (hi lo : Byte) (h : hi.toNat / 16 = 11) :
    decodeInstr (wordOf hi lo) = decodeMiscRow (BitVec.ofNat 4 hi.toNat) lo := by
  simp [decodeInstr, group_wordOf, subGroup_wordOf, h]

end Sys2Proof
end

