-- ==== Sys2Proof/Laws/State.lean ====
section
/-! SUPPORT. One lemma per field of State per operation on it, each true by rfl, so that no proof unfolds a record
update. -/

namespace Sys2Proof.Machine

variable (s : State)

@[simp] theorem present_dec (r : Request) : (present r s).dec = s.dec := rfl
@[simp] theorem present_enc (r : Request) : (present r s).enc = s.enc := rfl
@[simp] theorem present_fm (r : Request) : (present r s).fm = s.fm := rfl
@[simp] theorem present_toMask (r : Request) : (present r s).toMask = s.toMask := rfl
@[simp] theorem present_tm (r : Request) : (present r s).tm = s.tm := rfl
@[simp] theorem present_fn (r : Request) : (present r s).fn = s.fn := rfl
@[simp] theorem present_all (r : Request) : (present r s).all = s.all := rfl
@[simp] theorem present_pending (r : Request) : (present r s).pending = s.pending ++ [r] := rfl
@[simp] theorem present_outcomes (r : Request) : (present r s).outcomes = s.outcomes := rfl

@[simp] theorem setPending_dec (rs : List Request) : (setPending rs s).dec = s.dec := rfl
@[simp] theorem setPending_enc (rs : List Request) : (setPending rs s).enc = s.enc := rfl
@[simp] theorem setPending_fm (rs : List Request) : (setPending rs s).fm = s.fm := rfl
@[simp] theorem setPending_toMask (rs : List Request) : (setPending rs s).toMask = s.toMask := rfl
@[simp] theorem setPending_tm (rs : List Request) : (setPending rs s).tm = s.tm := rfl
@[simp] theorem setPending_fn (rs : List Request) : (setPending rs s).fn = s.fn := rfl
@[simp] theorem setPending_all (rs : List Request) : (setPending rs s).all = s.all := rfl
@[simp] theorem setPending_pending (rs : List Request) : (setPending rs s).pending = rs := rfl
@[simp] theorem setPending_outcomes (rs : List Request) : (setPending rs s).outcomes = s.outcomes := rfl

@[simp] theorem receive_dec (r : Response) : (receive r s).dec = s.dec := rfl
@[simp] theorem receive_enc (r : Response) : (receive r s).enc = s.enc := rfl
@[simp] theorem receive_fm (r : Response) : (receive r s).fm = s.fm := rfl
@[simp] theorem receive_toMask (r : Response) : (receive r s).toMask = s.toMask := rfl
@[simp] theorem receive_tm (r : Response) : (receive r s).tm = s.tm := rfl
@[simp] theorem receive_fn (r : Response) : (receive r s).fn = s.fn := rfl
@[simp] theorem receive_all (r : Response) : (receive r s).all = s.all := rfl
@[simp] theorem receive_pending (r : Response) : (receive r s).pending = s.pending := rfl
@[simp] theorem receive_outcomes (r : Response) : (receive r s).outcomes = s.outcomes ++ [r] := rfl

@[simp] theorem deliverDecode_dec (w : Word) (r : Result Variant) : (deliverDecode w r s).dec = decPorts w r := rfl
@[simp] theorem deliverDecode_enc (w : Word) (r : Result Variant) : (deliverDecode w r s).enc = s.enc := rfl
@[simp] theorem deliverDecode_fm (w : Word) (r : Result Variant) : (deliverDecode w r s).fm = s.fm := rfl
@[simp] theorem deliverDecode_toMask (w : Word) (r : Result Variant) : (deliverDecode w r s).toMask = s.toMask := rfl
@[simp] theorem deliverDecode_tm (w : Word) (r : Result Variant) : (deliverDecode w r s).tm = s.tm := rfl
@[simp] theorem deliverDecode_fn (w : Word) (r : Result Variant) : (deliverDecode w r s).fn = s.fn := rfl
@[simp] theorem deliverDecode_all (w : Word) (r : Result Variant) : (deliverDecode w r s).all = s.all := rfl
@[simp] theorem deliverDecode_pending (w : Word) (r : Result Variant) : (deliverDecode w r s).pending = s.pending := rfl
@[simp] theorem deliverDecode_outcomes (w : Word) (r : Result Variant) : (deliverDecode w r s).outcomes = s.outcomes ++ [.decoded r] := rfl

@[simp] theorem deliverEncode_dec (t : BitVec 3) (c : Nibble) (f : Byte) (r : Result Word) : (deliverEncode t c f r s).dec = s.dec := rfl
@[simp] theorem deliverEncode_enc (t : BitVec 3) (c : Nibble) (f : Byte) (r : Result Word) : (deliverEncode t c f r s).enc = encPorts t c f r := rfl
@[simp] theorem deliverEncode_fm (t : BitVec 3) (c : Nibble) (f : Byte) (r : Result Word) : (deliverEncode t c f r s).fm = s.fm := rfl
@[simp] theorem deliverEncode_toMask (t : BitVec 3) (c : Nibble) (f : Byte) (r : Result Word) : (deliverEncode t c f r s).toMask = s.toMask := rfl
@[simp] theorem deliverEncode_tm (t : BitVec 3) (c : Nibble) (f : Byte) (r : Result Word) : (deliverEncode t c f r s).tm = s.tm := rfl
@[simp] theorem deliverEncode_fn (t : BitVec 3) (c : Nibble) (f : Byte) (r : Result Word) : (deliverEncode t c f r s).fn = s.fn := rfl
@[simp] theorem deliverEncode_all (t : BitVec 3) (c : Nibble) (f : Byte) (r : Result Word) : (deliverEncode t c f r s).all = s.all := rfl
@[simp] theorem deliverEncode_pending (t : BitVec 3) (c : Nibble) (f : Byte) (r : Result Word) : (deliverEncode t c f r s).pending = s.pending := rfl
@[simp] theorem deliverEncode_outcomes (t : BitVec 3) (c : Nibble) (f : Byte) (r : Result Word) : (deliverEncode t c f r s).outcomes = s.outcomes ++ [.encoded r] := rfl

@[simp] theorem opEncodePorts_dec (t : BitVec 3) (c : Nibble) (f : Byte) : (opEncodePorts t c f s).dec = s.dec := rfl
@[simp] theorem opEncodePorts_enc (t : BitVec 3) (c : Nibble) (f : Byte) : (opEncodePorts t c f s).enc = encPorts t c f (encodePorts t c f) := rfl
@[simp] theorem opEncodePorts_fm (t : BitVec 3) (c : Nibble) (f : Byte) : (opEncodePorts t c f s).fm = s.fm := rfl
@[simp] theorem opEncodePorts_toMask (t : BitVec 3) (c : Nibble) (f : Byte) : (opEncodePorts t c f s).toMask = s.toMask := rfl
@[simp] theorem opEncodePorts_tm (t : BitVec 3) (c : Nibble) (f : Byte) : (opEncodePorts t c f s).tm = s.tm := rfl
@[simp] theorem opEncodePorts_fn (t : BitVec 3) (c : Nibble) (f : Byte) : (opEncodePorts t c f s).fn = s.fn := rfl
@[simp] theorem opEncodePorts_all (t : BitVec 3) (c : Nibble) (f : Byte) : (opEncodePorts t c f s).all = s.all := rfl
@[simp] theorem opEncodePorts_pending (t : BitVec 3) (c : Nibble) (f : Byte) : (opEncodePorts t c f s).pending = s.pending := rfl
@[simp] theorem opEncodePorts_outcomes (t : BitVec 3) (c : Nibble) (f : Byte) : (opEncodePorts t c f s).outcomes = s.outcomes ++ [.encoded (encodePorts t c f)] := rfl

@[simp] theorem opEncode_dec (v : VariantTerm) : (opEncode v s).dec = s.dec := rfl
@[simp] theorem opEncode_enc (v : VariantTerm) : (opEncode v s).enc = s.enc := rfl
@[simp] theorem opEncode_fm (v : VariantTerm) : (opEncode v s).fm = s.fm := rfl
@[simp] theorem opEncode_toMask (v : VariantTerm) : (opEncode v s).toMask = s.toMask := rfl
@[simp] theorem opEncode_tm (v : VariantTerm) : (opEncode v s).tm = s.tm := rfl
@[simp] theorem opEncode_fn (v : VariantTerm) : (opEncode v s).fn = s.fn := rfl
@[simp] theorem opEncode_all (v : VariantTerm) : (opEncode v s).all = s.all := rfl
@[simp] theorem opEncode_pending (v : VariantTerm) : (opEncode v s).pending = s.pending := rfl
@[simp] theorem opEncode_outcomes (v : VariantTerm) : (opEncode v s).outcomes = s.outcomes ++ [.encoded (encode v)] := rfl

@[simp] theorem opFromMask_dec (m : Nat) : (opFromMask m s).dec = s.dec := rfl
@[simp] theorem opFromMask_enc (m : Nat) : (opFromMask m s).enc = s.enc := rfl
@[simp] theorem opFromMask_fm (m : Nat) : (opFromMask m s).fm = fmPorts m (fromMask m) := rfl
@[simp] theorem opFromMask_toMask (m : Nat) : (opFromMask m s).toMask = s.toMask := rfl
@[simp] theorem opFromMask_tm (m : Nat) : (opFromMask m s).tm = s.tm := rfl
@[simp] theorem opFromMask_fn (m : Nat) : (opFromMask m s).fn = s.fn := rfl
@[simp] theorem opFromMask_all (m : Nat) : (opFromMask m s).all = s.all := rfl
@[simp] theorem opFromMask_pending (m : Nat) : (opFromMask m s).pending = s.pending := rfl
@[simp] theorem opFromMask_outcomes (m : Nat) : (opFromMask m s).outcomes = s.outcomes ++ [.fromMask (fromMask m)] := rfl

@[simp] theorem opToMask_dec (c : Cond) : (opToMask c s).dec = s.dec := rfl
@[simp] theorem opToMask_enc (c : Cond) : (opToMask c s).enc = s.enc := rfl
@[simp] theorem opToMask_fm (c : Cond) : (opToMask c s).fm = s.fm := rfl
@[simp] theorem opToMask_toMask (c : Cond) : (opToMask c s).toMask = toMaskPorts (Sys2Proof.toMask c) := rfl
@[simp] theorem opToMask_tm (c : Cond) : (opToMask c s).tm = s.tm := rfl
@[simp] theorem opToMask_fn (c : Cond) : (opToMask c s).fn = s.fn := rfl
@[simp] theorem opToMask_all (c : Cond) : (opToMask c s).all = s.all := rfl
@[simp] theorem opToMask_pending (c : Cond) : (opToMask c s).pending = s.pending := rfl
@[simp] theorem opToMask_outcomes (c : Cond) : (opToMask c s).outcomes = s.outcomes ++ [.toMask (Sys2Proof.toMask c)] := rfl

@[simp] theorem opFromMnemonic_dec (x : List Byte) : (opFromMnemonic x s).dec = s.dec := rfl
@[simp] theorem opFromMnemonic_enc (x : List Byte) : (opFromMnemonic x s).enc = s.enc := rfl
@[simp] theorem opFromMnemonic_fm (x : List Byte) : (opFromMnemonic x s).fm = s.fm := rfl
@[simp] theorem opFromMnemonic_toMask (x : List Byte) : (opFromMnemonic x s).toMask = s.toMask := rfl
@[simp] theorem opFromMnemonic_tm (x : List Byte) : (opFromMnemonic x s).tm = s.tm := rfl
@[simp] theorem opFromMnemonic_fn (x : List Byte) : (opFromMnemonic x s).fn = fnPorts x (fromMnemonic x) := rfl
@[simp] theorem opFromMnemonic_all (x : List Byte) : (opFromMnemonic x s).all = s.all := rfl
@[simp] theorem opFromMnemonic_pending (x : List Byte) : (opFromMnemonic x s).pending = s.pending := rfl
@[simp] theorem opFromMnemonic_outcomes (x : List Byte) : (opFromMnemonic x s).outcomes = s.outcomes ++ [.fromMnemonic (fromMnemonic x)] := rfl

@[simp] theorem opToMnemonic_dec (c : Cond) : (opToMnemonic c s).dec = s.dec := rfl
@[simp] theorem opToMnemonic_enc (c : Cond) : (opToMnemonic c s).enc = s.enc := rfl
@[simp] theorem opToMnemonic_fm (c : Cond) : (opToMnemonic c s).fm = s.fm := rfl
@[simp] theorem opToMnemonic_toMask (c : Cond) : (opToMnemonic c s).toMask = s.toMask := rfl
@[simp] theorem opToMnemonic_tm (c : Cond) : (opToMnemonic c s).tm = tmPorts (Sys2Proof.toMask c) := rfl
@[simp] theorem opToMnemonic_fn (c : Cond) : (opToMnemonic c s).fn = s.fn := rfl
@[simp] theorem opToMnemonic_all (c : Cond) : (opToMnemonic c s).all = s.all := rfl
@[simp] theorem opToMnemonic_pending (c : Cond) : (opToMnemonic c s).pending = s.pending := rfl
@[simp] theorem opToMnemonic_outcomes (c : Cond) : (opToMnemonic c s).outcomes = s.outcomes ++ [.toMnemonic (toMnemonic c)] := rfl

@[simp] theorem opAllAt_dec (k : Nibble) : (opAllAt k s).dec = s.dec := rfl
@[simp] theorem opAllAt_enc (k : Nibble) : (opAllAt k s).enc = s.enc := rfl
@[simp] theorem opAllAt_fm (k : Nibble) : (opAllAt k s).fm = s.fm := rfl
@[simp] theorem opAllAt_toMask (k : Nibble) : (opAllAt k s).toMask = s.toMask := rfl
@[simp] theorem opAllAt_tm (k : Nibble) : (opAllAt k s).tm = s.tm := rfl
@[simp] theorem opAllAt_fn (k : Nibble) : (opAllAt k s).fn = s.fn := rfl
@[simp] theorem opAllAt_all (k : Nibble) : (opAllAt k s).all = allPorts k := rfl
@[simp] theorem opAllAt_pending (k : Nibble) : (opAllAt k s).pending = s.pending := rfl
@[simp] theorem opAllAt_outcomes (k : Nibble) : (opAllAt k s).outcomes = s.outcomes ++ [.allAt (condOfMask k)] := rfl

@[simp] theorem opAll_dec : (opAll s).dec = s.dec := rfl
@[simp] theorem opAll_enc : (opAll s).enc = s.enc := rfl
@[simp] theorem opAll_fm : (opAll s).fm = s.fm := rfl
@[simp] theorem opAll_toMask : (opAll s).toMask = s.toMask := rfl
@[simp] theorem opAll_tm : (opAll s).tm = s.tm := rfl
@[simp] theorem opAll_fn : (opAll s).fn = s.fn := rfl
@[simp] theorem opAll_all : (opAll s).all = s.all := rfl
@[simp] theorem opAll_pending : (opAll s).pending = s.pending := rfl
@[simp] theorem opAll_outcomes : (opAll s).outcomes = s.outcomes ++ [.all allConds] := rfl

end Sys2Proof.Machine
end

