-- ==== Sys2Proof/Laws/Ops.lean ====
section
/-! SUPPORT. One lemma for each shared operation that says everything it can do. -/

namespace Sys2Proof.Machine

/-- A decode that gives a variant always answers a next state, the one with the variant delivered. -/
theorem decodesTo_eq (w : Word) (v : Variant) (s : State) :
    decodesTo w v s = .next (deliverDecode w (.ok v) s) := rfl

/-- A decode that raises always answers a next state, the one with the error delivered. -/
theorem decodeRaises_eq (level : Level) (w : Word) (s : State) :
    decodeRaises level w s = .next (deliverDecode w (.raise (.unclassified level w)) s) := rfl

/-- A caller loop goes on after a decode that gave a variant. -/
theorem hardStop_ok (w : Word) (v : Variant) (s : State) :
    hardStop (.next (deliverDecode w (.ok v) s)) = .next (deliverDecode w (.ok v) s) := by
  simp [hardStop]

/-- A caller loop stops after a decode that raised `Unclassified`. -/
theorem hardStop_unclassified (level : Level) (w w' : Word) (s : State) :
    hardStop (.next (deliverDecode w (.raise (.unclassified level w')) s)) = .fault (.unclassified level w') := by
  simp [hardStop]

/-- What a caller loop lets through it lets through unchanged. -/
theorem hardStop_next {o : Host.Outcome State Fault Refusal} {t : State} (h : hardStop o = .next t) : o = .next t := by
  unfold hardStop at h
  split at h
  · split at h
    · cases h
    · exact h
  · cases h
  · cases h

/-- The port form of a decode outcome: `dec_err` is 0 exactly for a value, and the variant outputs have a value exactly
then (10_state.md R27, R33). -/
theorem decPorts_err (w : Word) (r : Result Variant) :
    ((decPorts w r).err = 0#1 ↔ ∃ v, r = .ok v) ∧ ((decPorts w r).out.isSome = true ↔ ∃ v, r = .ok v) := by
  cases r <;> simp [decPorts]

/-- The port form of an encode outcome (10_state.md R28, R33). -/
theorem encPorts_err (t : BitVec 3) (c : Nibble) (f : Byte) (r : Result Word) :
    ((encPorts t c f r).err = 0#1 ↔ ∃ w, r = .ok w) ∧ ((encPorts t c f r).word.isSome = true ↔ ∃ w, r = .ok w) := by
  cases r <;> simp [encPorts]

@[simp] theorem decPorts_word (w : Word) (r : Result Variant) : (decPorts w r).word = w := by cases r <;> rfl

@[simp] theorem encPorts_tag (t : BitVec 3) (c : Nibble) (f : Byte) (r : Result Word) :
    (encPorts t c f r).tag = t := by cases r <;> rfl

@[simp] theorem encPorts_cond (t : BitVec 3) (c : Nibble) (f : Byte) (r : Result Word) :
    (encPorts t c f r).cond = c := by cases r <;> rfl

@[simp] theorem encPorts_field (t : BitVec 3) (c : Nibble) (f : Byte) (r : Result Word) :
    (encPorts t c f r).field = f := by cases r <;> rfl

@[simp] theorem fmPorts_m (m : Nat) (r : Result Cond) : (fmPorts m r).m = m := by cases r <;> rfl

@[simp] theorem fnPorts_text (text : List Byte) (r : Result Cond) : (fnPorts text r).text = text := by cases r <;> rfl

@[simp] theorem toMaskPorts_cond (c : Nibble) : (toMaskPorts c).cond = c := rfl

@[simp] theorem tmPorts_cond (c : Nibble) : (tmPorts c).cond = c := rfl

@[simp] theorem allPorts_k (k : Nibble) : (allPorts k).k = k := rfl

end Sys2Proof.Machine
end

