-- ==== Sys2Proof/Laws/PerInstr.lean ====
section
/-! SUPPORT. The family RowCodec: of each instruction, as syntax, that exactly the well-formed ones have a word and that
the word decodes back to the instruction with every bit of its operand (30_encoding.md R58). -/

namespace Sys2Proof.Laws.RowCodec

/-- The instruction has a word exactly when it is well formed, and its word decodes to it. -/
def Statement (i : Instr) : Prop :=
  (i.wellFormed = true ↔ (encodeInstr i).isSome = true) ∧ ∀ w, encodeInstr i = some w → decodeInstr w = i

/-- An instruction with the word `w`, once `w` is known to decode to it. -/
theorem of_word {i : Instr} {w : Word} (hi : i.wellFormed = true) (hw : encodeInstr i = some w)
    (hd : decodeInstr w = i) : Statement i :=
  ⟨by simp [hi, hw], by intro w' h; rw [hw] at h; cases h; exact hd⟩

theorem condBranchEQ (offset : BitVec 8) : Statement (.condBranchEQ offset) :=
  of_word rfl rfl (decodeInstr_cbSwi _ offset rfl)

theorem condBranchNE (offset : BitVec 8) : Statement (.condBranchNE offset) :=
  of_word rfl rfl (decodeInstr_cbSwi _ offset rfl)

theorem condBranchCS (offset : BitVec 8) : Statement (.condBranchCS offset) :=
  of_word rfl rfl (decodeInstr_cbSwi _ offset rfl)

theorem condBranchCC (offset : BitVec 8) : Statement (.condBranchCC offset) :=
  of_word rfl rfl (decodeInstr_cbSwi _ offset rfl)

theorem condBranchMI (offset : BitVec 8) : Statement (.condBranchMI offset) :=
  of_word rfl rfl (decodeInstr_cbSwi _ offset rfl)

theorem condBranchPL (offset : BitVec 8) : Statement (.condBranchPL offset) :=
  of_word rfl rfl (decodeInstr_cbSwi _ offset rfl)

theorem condBranchVS (offset : BitVec 8) : Statement (.condBranchVS offset) :=
  of_word rfl rfl (decodeInstr_cbSwi _ offset rfl)

theorem condBranchVC (offset : BitVec 8) : Statement (.condBranchVC offset) :=
  of_word rfl rfl (decodeInstr_cbSwi _ offset rfl)

theorem condBranchHI (offset : BitVec 8) : Statement (.condBranchHI offset) :=
  of_word rfl rfl (decodeInstr_cbSwi _ offset rfl)

theorem condBranchLS (offset : BitVec 8) : Statement (.condBranchLS offset) :=
  of_word rfl rfl (decodeInstr_cbSwi _ offset rfl)

theorem condBranchGE (offset : BitVec 8) : Statement (.condBranchGE offset) :=
  of_word rfl rfl (decodeInstr_cbSwi _ offset rfl)

theorem condBranchLT (offset : BitVec 8) : Statement (.condBranchLT offset) :=
  of_word rfl rfl (decodeInstr_cbSwi _ offset rfl)

theorem condBranchGT (offset : BitVec 8) : Statement (.condBranchGT offset) :=
  of_word rfl rfl (decodeInstr_cbSwi _ offset rfl)

theorem condBranchLE (offset : BitVec 8) : Statement (.condBranchLE offset) :=
  of_word rfl rfl (decodeInstr_cbSwi _ offset rfl)

theorem undefinedPermanent (low : BitVec 8) : Statement (.undefinedPermanent low) :=
  of_word rfl rfl (decodeInstr_cbSwi _ low rfl)

theorem softwareInterrupt (imm : BitVec 8) : Statement (.softwareInterrupt imm) :=
  of_word rfl rfl (decodeInstr_cbSwi _ imm rfl)

theorem undefinedReserved0001 (low : BitVec 8) : Statement (.undefinedReserved0001 low) :=
  of_word rfl rfl (decodeInstr_misc _ low rfl)

theorem undefinedReserved0011 (low : BitVec 8) : Statement (.undefinedReserved0011 low) :=
  of_word rfl rfl (decodeInstr_misc _ low rfl)

theorem undefinedReserved0111 (low : BitVec 8) : Statement (.undefinedReserved0111 low) :=
  of_word rfl rfl (decodeInstr_misc _ low rfl)

theorem undefinedReserved1000 (low : BitVec 8) : Statement (.undefinedReserved1000 low) :=
  of_word rfl rfl (decodeInstr_misc _ low rfl)

theorem undefinedReserved1001 (low : BitVec 8) : Statement (.undefinedReserved1001 low) :=
  of_word rfl rfl (decodeInstr_misc _ low rfl)

theorem undefinedReserved1011 (low : BitVec 8) : Statement (.undefinedReserved1011 low) :=
  of_word rfl rfl (decodeInstr_misc _ low rfl)

theorem unpredictable : Statement .unpredictable :=
  ⟨by decide, by intro w h; cases h⟩

theorem unclassifiedGroup0000 (low : BitVec 12) : Statement (.unclassifiedGroup0000 low) :=
  of_word rfl rfl (by simp [decodeInstr])

theorem unclassifiedGroup0001 (low : BitVec 12) : Statement (.unclassifiedGroup0001 low) :=
  of_word rfl rfl (by simp [decodeInstr])

theorem unclassifiedGroup0010 (low : BitVec 12) : Statement (.unclassifiedGroup0010 low) :=
  of_word rfl rfl (by simp [decodeInstr])

theorem unclassifiedGroup0011 (low : BitVec 12) : Statement (.unclassifiedGroup0011 low) :=
  of_word rfl rfl (by simp [decodeInstr])

theorem unclassifiedGroup0100 (low : BitVec 12) : Statement (.unclassifiedGroup0100 low) :=
  of_word rfl rfl (by simp [decodeInstr])

theorem unclassifiedGroup0101 (low : BitVec 12) : Statement (.unclassifiedGroup0101 low) :=
  of_word rfl rfl (by simp [decodeInstr])

theorem unclassifiedGroup0110 (low : BitVec 12) : Statement (.unclassifiedGroup0110 low) :=
  of_word rfl rfl (by simp [decodeInstr])

theorem unclassifiedGroup0111 (low : BitVec 12) : Statement (.unclassifiedGroup0111 low) :=
  of_word rfl rfl (by simp [decodeInstr])

theorem unclassifiedGroup1000 (low : BitVec 12) : Statement (.unclassifiedGroup1000 low) :=
  of_word rfl rfl (by simp [decodeInstr])

theorem unclassifiedGroup1001 (low : BitVec 12) : Statement (.unclassifiedGroup1001 low) :=
  of_word rfl rfl (by simp [decodeInstr])

theorem unclassifiedGroup1010 (low : BitVec 12) : Statement (.unclassifiedGroup1010 low) :=
  of_word rfl rfl (by simp [decodeInstr])

theorem unclassifiedGroup1100 (low : BitVec 12) : Statement (.unclassifiedGroup1100 low) :=
  of_word rfl rfl (by simp [decodeInstr])

theorem unclassifiedGroup1110 (low : BitVec 12) : Statement (.unclassifiedGroup1110 low) :=
  of_word rfl rfl (by simp [decodeInstr])

theorem unclassifiedGroup1111 (low : BitVec 12) : Statement (.unclassifiedGroup1111 low) :=
  of_word rfl rfl (by simp [decodeInstr])

theorem unclassifiedMisc0000 (low : BitVec 8) : Statement (.unclassifiedMisc0000 low) :=
  of_word rfl rfl (decodeInstr_misc _ low rfl)

theorem unclassifiedMisc0010 (low : BitVec 8) : Statement (.unclassifiedMisc0010 low) :=
  of_word rfl rfl (decodeInstr_misc _ low rfl)

theorem unclassifiedMisc0100 (low : BitVec 8) : Statement (.unclassifiedMisc0100 low) :=
  of_word rfl rfl (decodeInstr_misc _ low rfl)

theorem unclassifiedMisc0101 (low : BitVec 8) : Statement (.unclassifiedMisc0101 low) :=
  of_word rfl rfl (decodeInstr_misc _ low rfl)

theorem unclassifiedMisc0110 (low : BitVec 8) : Statement (.unclassifiedMisc0110 low) :=
  of_word rfl rfl (decodeInstr_misc _ low rfl)

theorem unclassifiedMisc1010 (low : BitVec 8) : Statement (.unclassifiedMisc1010 low) :=
  of_word rfl rfl (decodeInstr_misc _ low rfl)

theorem unclassifiedMisc1100 (low : BitVec 8) : Statement (.unclassifiedMisc1100 low) :=
  of_word rfl rfl (decodeInstr_misc _ low rfl)

theorem unclassifiedMisc1101 (low : BitVec 8) : Statement (.unclassifiedMisc1101 low) :=
  of_word rfl rfl (decodeInstr_misc _ low rfl)

theorem unclassifiedMisc1110 (low : BitVec 8) : Statement (.unclassifiedMisc1110 low) :=
  of_word rfl rfl (decodeInstr_misc _ low rfl)

theorem unclassifiedMisc1111 (low : BitVec 8) : Statement (.unclassifiedMisc1111 low) :=
  of_word rfl rfl (decodeInstr_misc _ low rfl)

end Sys2Proof.Laws.RowCodec
end

