-- ==== Sys2Proof/Laws/Step.lean ====
section
/-! SUPPORT. A step on each operation, and a run as its first step and the rest. -/

namespace Sys2Proof.Machine

theorem step_decode (w : Word) (rest : List Request) (s : State) :
    step { s with pending := .decode w :: rest } = exec (decodeInstr w) { s with pending := rest } := rfl

theorem step_stream (b0 b1 : Byte) (rest : List Request) (s : State) :
    step { s with pending := .stream b0 b1 :: rest } =
      hardStop (exec (decodeInstr (wordOfBytes b0 b1)) { s with pending := rest }) := rfl

/-- With nothing presented a step changes nothing. -/
theorem step_idle {s : State} (h : s.pending = []) : step s = .next s := by
  simp [step, h]

/-- A run whose first step answers a next state goes on from it. -/
theorem run_of_next {s t : State} (h : step s = .next t) (k : Nat) :
    Sys2Proof.core.run (k + 1) s = Sys2Proof.core.run k t := by
  have h' : Sys2Proof.core.step s = .next t := h
  simp only [Host.Core.run, h']

/-- A run whose first step faults is that fault. -/
theorem run_of_fault {s : State} {r : Fault} (h : step s = .fault r) (k : Nat) :
    Sys2Proof.core.run (k + 1) s = .fault r := by
  have h' : Sys2Proof.core.step s = .fault r := h
  simp only [Host.Core.run, h']

end Sys2Proof.Machine
end

