-- ==== Sys2Proof/Machine/Flags.lean ====
section
/-! DEFINITION. The flag predicates of 40_condition_codes.md R70. The block holds no flags and evaluates no condition
(10_state.md R20): no operation and no field of State uses this file; the table is informational.
PRESUMED: the whole column is from general knowledge (G3, log entry 17). -/

namespace Sys2Proof

/-- The processor flags a predicate names. They belong to a processor outside the block. -/
structure Flags where
  n : Bool
  z : Bool
  c : Bool
  v : Bool
  deriving DecidableEq, Repr

/-- The informational predicate of each condition (R70); NV is not a condition and has none. -/
def Cond.predicate (cond : Cond) (f : Flags) : Option Bool :=
  match cond with
  | .eq => some f.z
  | .ne => some (!f.z)
  | .cs => some f.c
  | .cc => some (!f.c)
  | .mi => some f.n
  | .pl => some (!f.n)
  | .vs => some f.v
  | .vc => some (!f.v)
  | .hi => some (f.c && !f.z)
  | .ls => some (!f.c || f.z)
  | .ge => some (f.n == f.v)
  | .lt => some (f.n != f.v)
  | .gt => some (!f.z && (f.n == f.v))
  | .le => some (f.z || (f.n != f.v))
  | .al => some true
  | .nv => none

end Sys2Proof
end

