-- ==== Sys2Proof/Tests/Slice0.lean ====
section
/-! SUPPORT. Tests. Expected results are the spec's own: its vectors (95_test_vectors.md) and words written out from its
encoding tables (30_encoding.md, opcode_table.json). Witnesses: for each statement with hypotheses, a concrete case that
meets them. -/

namespace Sys2Proof.Tests

open Sys2Proof Sys2Proof.Machine Sys2Proof.Claims

/-! ### WellFormed refuses (10_state.md R25) -/

theorem test_wellFormed_branch_edges :
    (VariantTerm.condBranch .le (-128)).wellFormed = true ∧ (VariantTerm.condBranch .eq 127).wellFormed = true := by decide
theorem test_illFormed_branch_al : (VariantTerm.condBranch .al 0).wellFormed = false := by decide
theorem test_illFormed_branch_nv : (VariantTerm.condBranch .nv 3).wellFormed = false := by decide
theorem test_illFormed_offset_high : (VariantTerm.condBranch .eq 128).wellFormed = false := by decide
theorem test_illFormed_offset_low : (VariantTerm.condBranch .eq (-129)).wellFormed = false := by decide
theorem test_illFormed_imm_negative : (VariantTerm.softwareInterrupt (-1)).wellFormed = false := by decide
theorem test_illFormed_imm_high : (VariantTerm.softwareInterrupt 256).wellFormed = false := by decide
theorem test_illFormed_instr : Instr.unpredictable.wellFormed = false := by decide

/-! ### Each row's word, bit by bit from its encoding in opcode_table.json, decodes to the row -/

theorem test_decodes_condBranch_0 :
    decodeInstr 0b1101000010110100#16 = .condBranchEQ 0b10110100#8 ∧
    decodeInstr 0b1101000110110100#16 = .condBranchNE 0b10110100#8 ∧
    decodeInstr 0b1101001010110100#16 = .condBranchCS 0b10110100#8 ∧
    decodeInstr 0b1101001110110100#16 = .condBranchCC 0b10110100#8 ∧
    decodeInstr 0b1101010010110100#16 = .condBranchMI 0b10110100#8 ∧
    decodeInstr 0b1101010110110100#16 = .condBranchPL 0b10110100#8 ∧
    decodeInstr 0b1101011010110100#16 = .condBranchVS 0b10110100#8 := by decide
theorem test_decodes_condBranch_1 :
    decodeInstr 0b1101011110110100#16 = .condBranchVC 0b10110100#8 ∧
    decodeInstr 0b1101100010110100#16 = .condBranchHI 0b10110100#8 ∧
    decodeInstr 0b1101100110110100#16 = .condBranchLS 0b10110100#8 ∧
    decodeInstr 0b1101101010110100#16 = .condBranchGE 0b10110100#8 ∧
    decodeInstr 0b1101101110110100#16 = .condBranchLT 0b10110100#8 ∧
    decodeInstr 0b1101110010110100#16 = .condBranchGT 0b10110100#8 ∧
    decodeInstr 0b1101110110110100#16 = .condBranchLE 0b10110100#8 := by decide
theorem test_decodes_undefined_0 :
    decodeInstr 0b1101111010110100#16 = .undefinedPermanent 0b10110100#8 ∧
    decodeInstr 0b1011000110110100#16 = .undefinedReserved0001 0b10110100#8 ∧
    decodeInstr 0b1011001110110100#16 = .undefinedReserved0011 0b10110100#8 ∧
    decodeInstr 0b1011011110110100#16 = .undefinedReserved0111 0b10110100#8 ∧
    decodeInstr 0b1011100010110100#16 = .undefinedReserved1000 0b10110100#8 ∧
    decodeInstr 0b1011100110110100#16 = .undefinedReserved1001 0b10110100#8 ∧
    decodeInstr 0b1011101110110100#16 = .undefinedReserved1011 0b10110100#8 := by decide
theorem test_decodes_softwareInterrupt_0 :
    decodeInstr 0b1101111110110100#16 = .softwareInterrupt 0b10110100#8 := by decide
theorem test_decodes_unclassifiedGroup_0 :
    decodeInstr 0b0000100101101101#16 = .unclassifiedGroup0000 0b100101101101#12 ∧
    decodeInstr 0b0001100101101101#16 = .unclassifiedGroup0001 0b100101101101#12 ∧
    decodeInstr 0b0010100101101101#16 = .unclassifiedGroup0010 0b100101101101#12 ∧
    decodeInstr 0b0011100101101101#16 = .unclassifiedGroup0011 0b100101101101#12 ∧
    decodeInstr 0b0100100101101101#16 = .unclassifiedGroup0100 0b100101101101#12 ∧
    decodeInstr 0b0101100101101101#16 = .unclassifiedGroup0101 0b100101101101#12 ∧
    decodeInstr 0b0110100101101101#16 = .unclassifiedGroup0110 0b100101101101#12 := by decide
theorem test_decodes_unclassifiedGroup_1 :
    decodeInstr 0b0111100101101101#16 = .unclassifiedGroup0111 0b100101101101#12 ∧
    decodeInstr 0b1000100101101101#16 = .unclassifiedGroup1000 0b100101101101#12 ∧
    decodeInstr 0b1001100101101101#16 = .unclassifiedGroup1001 0b100101101101#12 ∧
    decodeInstr 0b1010100101101101#16 = .unclassifiedGroup1010 0b100101101101#12 ∧
    decodeInstr 0b1100100101101101#16 = .unclassifiedGroup1100 0b100101101101#12 ∧
    decodeInstr 0b1110100101101101#16 = .unclassifiedGroup1110 0b100101101101#12 ∧
    decodeInstr 0b1111100101101101#16 = .unclassifiedGroup1111 0b100101101101#12 := by decide
theorem test_decodes_unclassifiedMisc_0 :
    decodeInstr 0b1011000010110100#16 = .unclassifiedMisc0000 0b10110100#8 ∧
    decodeInstr 0b1011001010110100#16 = .unclassifiedMisc0010 0b10110100#8 ∧
    decodeInstr 0b1011010010110100#16 = .unclassifiedMisc0100 0b10110100#8 ∧
    decodeInstr 0b1011010110110100#16 = .unclassifiedMisc0101 0b10110100#8 ∧
    decodeInstr 0b1011011010110100#16 = .unclassifiedMisc0110 0b10110100#8 ∧
    decodeInstr 0b1011101010110100#16 = .unclassifiedMisc1010 0b10110100#8 ∧
    decodeInstr 0b1011110010110100#16 = .unclassifiedMisc1100 0b10110100#8 := by decide
theorem test_decodes_unclassifiedMisc_1 :
    decodeInstr 0b1011110110110100#16 = .unclassifiedMisc1101 0b10110100#8 ∧
    decodeInstr 0b1011111010110100#16 = .unclassifiedMisc1110 0b10110100#8 ∧
    decodeInstr 0b1011111110110100#16 = .unclassifiedMisc1111 0b10110100#8 := by decide

/-! ### Decoder vectors (95_test_vectors.md sections 1, 2.5 to 2.7) -/

theorem test_decode_source_S8 : decode 0b1101000011111110#16 = .ok ⟨.condBranch .eq (-2), by decide⟩ := by decide
theorem test_decode_source_S6 : decode 0b1101111100000101#16 = .ok ⟨.softwareInterrupt 5, by decide⟩ := by decide
theorem test_decode_source_S7 : decode 0b1101111000000000#16 = .ok ⟨.undefinedPermanent, by decide⟩ := by decide
theorem test_decode_largest_offset : decode 0xD07F#16 = .ok ⟨.condBranch .eq 127, by decide⟩ := by decide
theorem test_decode_smallest_offset : decode 0xDD80#16 = .ok ⟨.condBranch .le (-128), by decide⟩ := by decide
theorem test_decode_imm_unsigned : decode 0xDFFF#16 = .ok ⟨.softwareInterrupt 255, by decide⟩ := by decide
theorem test_decode_reserved : decode 0xB8FF#16 = .ok ⟨.undefinedReserved, by decide⟩ := by decide
theorem test_decode_misc_unclassified : decode 0xBF00#16 = .raise (.unclassified .misc 0xBF00#16) := by decide
theorem test_decode_top_unclassified : decode 0xAFFF#16 = .raise (.unclassified .top 0xAFFF#16) := by decide

/-! ### Encoder vectors (95_test_vectors.md section 2.8) -/

theorem test_encode_branch : encode (.condBranch .gt (-64)) = .ok 0xDCC0#16 := by decide
theorem test_encode_branch_edge : encode (.condBranch .cc 127) = .ok 0xD37F#16 := by decide
theorem test_encode_swi : encode (.softwareInterrupt 171) = .ok 0xDFAB#16 := by decide
theorem test_encode_permanent : encode .undefinedPermanent = .ok 0xDE00#16 := by decide
theorem test_encode_reserved : encode .undefinedReserved = .ok 0xB100#16 := by decide
theorem test_encode_unpredictable : encode .unpredictable = .raise (.unencodable .unpredictable) := by decide
theorem test_encode_al : encode (.condBranch .al 0) = .raise (.illFormedVariant (.term (.condBranch .al 0))) := by decide
theorem test_encode_offset_128 :
    encode (.condBranch .eq 128) = .raise (.illFormedVariant (.term (.condBranch .eq 128))) := by decide
theorem test_encodePorts_field_signed : encodePorts 0#3 2#4 0x80#8 = .ok 0xD280#16 := by decide
theorem test_encodePorts_tag6 : encodePorts 6#3 0#4 0#8 = .raise (.illFormedVariant (.ports 6#3 0#4 0#8)) := by decide

/-! ### Condition-code vectors (95_test_vectors.md sections 2.1 to 2.4) -/

theorem test_fromMask_ge : fromMask 10 = .ok .ge := by decide
theorem test_fromMask_16 : fromMask 16 = .raise (.maskOutOfRange 16) := by decide
theorem test_fromMask_31_not_nv : fromMask 31 = .raise (.maskOutOfRange 31) := by decide
theorem test_toMnemonic_ge : toMnemonic .ge = [0x67#8, 0x65#8] := by decide
theorem test_fromMnemonic_hs : fromMnemonic [0x68#8, 0x73#8] = .ok .cs := by decide
theorem test_fromMnemonic_upper : fromMnemonic [0x45#8, 0x51#8] = .raise (.unrecognizedMnemonic [0x45#8, 0x51#8]) := by
  decide
theorem test_fromMnemonic_empty : fromMnemonic [] = .raise (.unrecognizedMnemonic []) := by decide
theorem test_fromMnemonic_nv : fromMnemonic [0x6E#8, 0x76#8] = .raise (.unrecognizedMnemonic [0x6E#8, 0x76#8]) := by decide
theorem test_fromMnemonic_trailing_space :
    fromMnemonic [0x65#8, 0x71#8, 0x20#8] = .raise (.unrecognizedMnemonic [0x65#8, 0x71#8, 0x20#8]) := by decide
theorem test_all_edges : allConds[0]? = some .eq ∧ allConds[10]? = some .ge ∧ allConds[15]? = some .nv := by decide

/-! ### One step, on the state after reset -/

/-- The state after a step, if it answers one. -/
def after (o : Host.Outcome State Fault Refusal) : Option State :=
  match o with
  | .next t => some t
  | .fault _ => none
  | .refused _ => none

/-- The fault of a step, if it faults. -/
def faultOf (o : Host.Outcome State Fault Refusal) : Option Fault :=
  match o with
  | .next _ => none
  | .fault r => some r
  | .refused _ => none

/-- The state after reset with one operation presented. -/
def presented (r : Request) : State := present r State.reset

theorem test_step_branch_ports :
    (after (step (presented (.decode 0xDAFE#16)))).map State.dec =
      some { word := 0xDAFE#16, err := 0#1, errCode := 0#4, out := some { tag := 0#3, cond := 10#4, field := 0xFE#8 } } := by
  decide
theorem test_step_swi_ports :
    (after (step (presented (.decode 0xDFFF#16)))).map State.dec =
      some { word := 0xDFFF#16, err := 0#1, errCode := 0#4, out := some { tag := 1#3, cond := 0#4, field := 0xFF#8 } } := by
  decide
theorem test_step_permanent_ports :
    (after (step (presented (.decode 0xDE5A#16)))).map State.dec =
      some { word := 0xDE5A#16, err := 0#1, errCode := 0#4, out := some { tag := 2#3, cond := 0#4, field := 0#8 } } := by
  decide
theorem test_step_unclassified_error_delivered :
    (after (step (presented (.decode 0xB200#16)))).map (fun t => (t.dec, t.outcomes)) =
      some ({ word := 0xB200#16, err := 1#1, errCode := 3#4, out := none },
        [.decoded (.raise (.unclassified .misc 0xB200#16))]) := by decide
/-- Program P3, step 2. -/
theorem test_stream_stops_at_unclassified :
    faultOf (step (presented (.stream 0x01#8 0x20#8))) = some (.unclassified .top 0x2001#16) := by decide
/-- Program P1, step 1: the bytes `FE D0`. -/
theorem test_stream_is_little_endian :
    (after (step (presented (.stream 0xFE#8 0xD0#8)))).map State.outcomes =
      some [.decoded (.ok ⟨.condBranch .eq (-2), by decide⟩)] := by decide
/-- Program P2, step 8: an error of another kind does not stop the block. -/
theorem test_step_unencodable_delivered :
    (after (step (presented (.encodePorts 4#3 9#4 7#8)))).map State.enc =
      some { tag := 4#3, cond := 9#4, field := 7#8, err := 1#1, errCode := 4#4, word := none } := by decide
theorem test_step_toMnemonic_ports :
    (after (step (presented (.toMnemonic .cs)))).map State.tm =
      some { cond := 2#4, len := 2#2, char0 := 0x63#8, char1 := 0x73#8 } := by decide
theorem test_step_fromMnemonic_error_has_no_condition :
    (after (step (presented (.fromMnemonic [])))).map State.fn = some { text := [], err := 1#1, cond := none } := by decide
theorem test_fetch_runs_row :
    (after (step (State.reset.withFetchWord 16 0xD105))).map State.outcomes =
      some [.decoded (.ok ⟨.condBranch .ne 5, by decide⟩)] := by decide
theorem test_decodeTableWord : decodeTableWord 16 0xB3A5 = some (.undefinedReserved0011 0xA5#8) := by decide

/-! ### Witnesses: hypotheses of the statements are met, each clause at an edge of its range -/

theorem witness_StepRunsDecodedInstruction :
    decodeBytes [0xFE#8, 0xD0#8] = .ok (.condBranchEQ 0xFE#8, []) := by rfl
theorem witness_FetchedTableWordRuns : decodeTableWord 16 0xFFFF = some (.unclassifiedGroup1111 0xFFF#12) := by decide
theorem witness_DecodeDispatches_reserved :
    (0xB1FF#16).toNat / 4096 = 11 ∧ (0xB1FF#16).toNat / 256 % 16 ∈ reservedSubs := by decide
theorem witness_DecodeDispatches_misc :
    (0xBF00#16).toNat / 4096 = 11 ∧ (0xBF00#16).toNat / 256 % 16 ∉ reservedSubs := by decide
theorem witness_DecodeDispatches_permanent :
    (0xDEFF#16).toNat / 4096 = 13 ∧ (0xDEFF#16).toNat / 256 % 16 = 14 := by decide
theorem witness_DecodeDispatches_interrupt :
    (0xDFFF#16).toNat / 4096 = 13 ∧ (0xDFFF#16).toNat / 256 % 16 = 15 := by decide
theorem witness_DecodeDispatches_branch :
    (0xDDFF#16).toNat / 4096 = 13 ∧ (0xDDFF#16).toNat / 256 % 16 < 14 := by decide
theorem witness_DecodeDispatches_top : (0xC000#16).toNat / 4096 ≠ 11 ∧ (0xC000#16).toNat / 4096 ≠ 13 := by decide
theorem witness_UndefinedWordsAreResults_permanent : DecodesTo 0xDEFF#16 .undefinedPermanent :=
  ⟨mkUndefinedPermanent, rfl, by decide⟩
theorem witness_UndefinedWordsAreResults_reserved : DecodesTo 0xBB00#16 .undefinedReserved :=
  ⟨mkUndefinedReserved, rfl, by decide⟩
theorem witness_BranchOffset_word : DecodesTo 0xD080#16 (.condBranch .eq (-128)) :=
  ⟨⟨.condBranch .eq (-128), by decide⟩, rfl, by decide⟩
theorem witness_BranchOffset_term : Cond.le ≠ .al ∧ Cond.le ≠ .nv ∧ (-128 : Int) ≤ 127 ∧ (127 : Int) ≤ 127 := by decide
theorem witness_InterruptImmediate_word : DecodesTo 0xDFFF#16 (.softwareInterrupt 255) :=
  ⟨⟨.softwareInterrupt 255, by decide⟩, rfl, by decide⟩
theorem witness_InterruptImmediate_term : (0 : Int) ≤ 255 ∧ (255 : Int) ≤ 255 := by decide
theorem witness_WordsDetermined_branch :
    ∃ v : Variant, ∃ c o, v.val = .condBranch c o := ⟨⟨.condBranch .le 127, by decide⟩, .le, 127, rfl⟩
theorem witness_WordsDetermined_interrupt :
    ∃ v : Variant, ∃ i, v.val = .softwareInterrupt i := ⟨⟨.softwareInterrupt 0, by decide⟩, 0, rfl⟩
theorem witness_TableRows_row_covers : (⟨"CondBranch[LE]", 0xDD00#16, 0xFF00#16⟩ : OpcodeRow) ∈ opcodeRows ∧
    OpcodeRow.covers ⟨"CondBranch[LE]", 0xDD00#16, 0xFF00#16⟩ 0xDDFF#16 = true := by decide
theorem witness_RoundTrip_canonical_words :
    DecodesTo 0xB9C3#16 .undefinedReserved ∧ DecodesTo 0xDE5A#16 .undefinedPermanent :=
  ⟨⟨mkUndefinedReserved, rfl, by decide⟩, ⟨mkUndefinedPermanent, rfl, by decide⟩⟩
theorem witness_RoundTrip_variant : mkUndefinedReserved.val ≠ .unpredictable := by decide
theorem witness_Collapsed : decode 0xBBC3#16 = .ok mkUndefinedReserved ∧ decode 0xDEFF#16 = .ok mkUndefinedPermanent ∧
    decode 0xDFFF#16 = .ok (mkSoftwareInterrupt 0xFF#8) := by decide
theorem witness_EncodeInjective : encode (.condBranch .eq (-1)) = .ok 0xD0FF#16 := by decide
theorem witness_EncodedWordsAreClassified : encode .undefinedReserved = .ok 0xB100#16 := by decide
theorem witness_InstructionWordRoundTrip :
    encodeInstr (.unclassifiedMisc1111 0xFF#8) = some 0xBFFF#16 ∧
    encodeInstr (.unclassifiedGroup1100 0xFFF#12) = some 0xCFFF#16 := by decide
theorem witness_FromMask_below : (15 : Nat) < 16 := by decide
theorem witness_FromMask_above : (16 : Nat) ≤ 16 := by decide
theorem witness_MaskBijection : toMask .nv = toMask .nv ∧ (15 : Nat) < 16 := by decide
theorem witness_MaskRoundTrips : (15 : Nat) < 16 := by decide
theorem witness_FromMnemonic_rejected :
    ∀ c, ([] : List Byte) = [] ∨ (c, ([] : List Byte)) ∉ canonicalTable ++ secondSpellings := fun _ => .inl rfl
theorem witness_FromMnemonic_rejected_second : ∀ c, ([0x6E, 0x76] : List Byte) = [] ∨
    (c, ([0x6E, 0x76] : List Byte)) ∉ canonicalTable ++ secondSpellings := by intro c; right; cases c <;> decide
theorem witness_UnrecognizedMnemonic : fromMnemonic [0x65#8] = .raise (.unrecognizedMnemonic [0x65#8]) := by decide
theorem witness_CanonicalMnemonics : fromMnemonic [0x6C#8, 0x6F#8] = .ok .cc ∧
    (Cond.cc, ([0x6C, 0x6F] : List Byte)) ∈ secondSpellings ∧ toMnemonic .nv = toMnemonic .nv := by decide
theorem witness_MnemonicRoundTrips : Cond.al ≠ .nv ∧ fromMnemonic (toMnemonic .al) = .ok .al := by decide
theorem witness_AllLists : (15 : Nat) < 16 := by decide
theorem witness_ConditionUnit_fromMnemonic_ok : fromMnemonic [0x61#8, 0x6C#8] = .ok .al := by decide
theorem witness_ConditionUnit_fromMnemonic_raise :
    fromMnemonic [] = .raise (.unrecognizedMnemonic []) := by decide
theorem witness_ConditionUnit_toMnemonic : toMnemonic .al = [0x61#8, 0x6C#8] := by decide
theorem witness_ConditionUnit_allAt : toMask .nv = 15#4 := by decide
theorem witness_OutcomeIsFunction : (Request.fromMask 16).isStream = false := by decide
theorem witness_OutcomeIsFunction_stream_ok :
    decode (wordOfBytes 0xFF#8 0xDF#8) = .ok (mkSoftwareInterrupt 0xFF#8) := by decide
theorem witness_OutcomeIsFunction_stream_raise :
    decode (wordOfBytes 0xFF#8 0xFF#8) = .raise (.unclassified .top 0xFFFF#16) := by decide
theorem witness_UnitsAreIndependent : ∃ t, step { State.reset with pending := .all :: [] } = .next t ∧
    usesDecoder .all = false ∧ usesEncoder .all = false ∧ (∀ m, Request.all ≠ .fromMask m) ∧
    (∀ c, Request.all ≠ .toMask c) ∧ (∀ c, Request.all ≠ .toMnemonic c) ∧ (∀ x, Request.all ≠ .fromMnemonic x) ∧
    ∀ k, Request.all ≠ .allAt k := by
  refine ⟨_, rfl, rfl, rfl, ?_, ?_, ?_, ?_, ?_⟩ <;> intro x h <;> cases h
theorem witness_RunDelivers : ∀ r ∈ [Request.fromMask 16, .encodePorts 7#3 0#4 0#8, .decode 0#16],
    r.isStream = false := by decide
theorem witness_StreamLoop_prefix : ∀ p ∈ [((0xFF#8, 0xDD#8) : Byte × Byte), (0x00#8, 0xB1#8)],
    ∃ v, decode (BitVec.ofNat 16 (p.1.toNat + 256 * p.2.toNat)) = .ok v := by
  intro p hp
  simp only [List.mem_cons, List.not_mem_nil, or_false] at hp
  rcases hp with rfl | rfl
  · exact ⟨⟨.condBranch .le (-1), by decide⟩, by decide⟩
  · exact ⟨mkUndefinedReserved, by decide⟩
theorem witness_StreamLoop_stop :
    decode (BitVec.ofNat 16 ((0x01#8).toNat + 256 * (0x20#8).toNat)) = .raise (.unclassified .top 0x2001#16) := by decide
theorem witness_PortsStayCombinational_step : Combinational State.reset ∧ ∃ t, step State.reset = .next t :=
  ⟨by decide, _, rfl⟩
theorem witness_PortsStayCombinational_exec : ∃ t, exec .unpredictable State.reset = .next t := ⟨_, rfl⟩
theorem witness_OutcomesStayPermitted : OutcomesPermitted (receive (.toMask 0#4) State.reset) ∧
    ∃ t, step (receive (.toMask 0#4) State.reset) = .next t := by
  refine ⟨?_, _, rfl⟩
  intro r hr
  simp only [receive, State.reset, List.nil_append, List.mem_singleton] at hr
  subst hr
  trivial
theorem witness_SignExtension : (-128 : Int) ≤ -128 ∧ (-128 : Int) ≤ 127 := by decide

end Sys2Proof.Tests
end

section
/-! PROOFS. Sign extension of a byte and the byte of an offset (00_scope.md R13). Both inverses are one case split,
the sign of the number and the top half of the byte, over what each function gives as a number. -/

namespace Sys2Proof

open Sys2Proof.Claims

theorem sext8_eq_signed (b : Byte) : sext8 b = signed b := rfl

theorem sext8_of_lt {b : Byte} (h : b.toNat < 128) : sext8 b = (b.toNat : Int) := if_pos h

theorem sext8_of_ge {b : Byte} (h : 128 ≤ b.toNat) : sext8 b = (b.toNat : Int) - 256 := if_neg (Nat.not_lt.mpr h)

/-- The byte of any integer is its remainder modulo 256, also out of the range of R13. -/
theorem twos8_toNat (i : Int) : ((twos8 i).toNat : Int) = i % 256 := by
  rw [twos8, BitVec.toNat_ofNat]
  omega

theorem sext8_twos8 {i : Int} (hlo : -128 ≤ i) (hhi : i ≤ 127) : sext8 (twos8 i) = i := by
  have hbyte := twos8_toNat i
  rcases lt_or_ge i 0 with hneg | hpos
  · have htop : 128 ≤ (twos8 i).toNat := by omega
    rw [sext8_of_ge htop]
    omega
  · have hlow : (twos8 i).toNat < 128 := by omega
    rw [sext8_of_lt hlow]
    omega

theorem twos8_sext8 (b : Byte) : twos8 (sext8 b) = b := by
  apply BitVec.eq_of_toNat_eq
  have hbyte := twos8_toNat (sext8 b)
  have hb := b.isLt
  rcases lt_or_ge b.toNat 128 with hlow | htop
  · rw [sext8_of_lt hlow] at hbyte ⊢
    omega
  · rw [sext8_of_ge htop] at hbyte ⊢
    omega

/-- Settles O58: the two inverses on their ranges, and `sext8` written out as R13 has it. -/
theorem signExtensionInverses : Obligations.SignExtensionInverses :=
  ⟨fun _ => sext8_twos8, twos8_sext8, sext8_eq_signed⟩

end Sys2Proof
end

section
/-! PROOFS. The decoder on every word: what `decode` gives in each part of the word space, and that the rows' meanings
together deliver exactly that. A word is its group, its sub-group and its low byte, and each four-bit field is the mask of
one condition, so a split over the 16 conditions is a split over the field. -/

namespace Sys2Proof

open Sys2Proof.Claims

/-! ### Fields -/

/-- The high byte of a word, from its group and its sub-group. -/
def fieldsByte (g sub : Nibble) : Byte := BitVec.ofNat 8 (16 * g.toNat + sub.toNat)

theorem fieldsByte_toNat (g sub : Nibble) : (fieldsByte g sub).toNat = 16 * g.toNat + sub.toNat := by
  have hg := g.isLt
  have hsub := sub.isLt
  rw [fieldsByte, BitVec.toNat_ofNat]
  omega

/-- A word is its group, its sub-group and its low byte. -/
theorem wordOf_fieldsByte_lowByte (w : Word) : wordOf (fieldsByte (group w) (subGroup w)) (lowByte w) = w := by
  apply BitVec.eq_of_toNat_eq
  rw [wordOf_toNat, fieldsByte_toNat, group_toNat, subGroup_toNat, lowByte_toNat]
  omega

theorem subGroup_eq_iff (w : Word) (sub : Nibble) : subGroup w = sub ↔ w.toNat / 256 % 16 = sub.toNat := by
  rw [← BitVec.toNat_inj, subGroup_toNat]

theorem subGroup_eq_al_iff (w : Word) : subGroup w = toMask .al ↔ w.toNat / 256 % 16 = 14 := subGroup_eq_iff w _

theorem subGroup_eq_nv_iff (w : Word) : subGroup w = toMask .nv ↔ w.toNat / 256 % 16 = 15 := subGroup_eq_iff w _

theorem group_eq_iff (w : Word) (g : Nibble) : group w = g ↔ w.toNat / 4096 = g.toNat := by
  rw [← BitVec.toNat_inj, group_toNat]

theorem group_eq_misc_iff (w : Word) : group w = 11#4 ↔ w.toNat / 4096 = 11 := group_eq_iff w _

theorem group_eq_cbSwi_iff (w : Word) : group w = 13#4 ↔ w.toNat / 4096 = 13 := group_eq_iff w _

theorem subGroup_eq_ofNat (w : Word) : subGroup w = BitVec.ofNat 4 (w.toNat / 256) := by
  rw [subGroup_eq_iff, BitVec.toNat_ofNat]

theorem lowByte_eq_ofNat (w : Word) : lowByte w = BitVec.ofNat 8 w.toNat := by
  apply BitVec.eq_of_toNat_eq
  rw [lowByte_toNat, BitVec.toNat_ofNat]

theorem isReservedSubGroup_iff : ∀ sub : Nibble, isReservedSubGroup sub = true ↔ sub.toNat ∈ reservedSubs := by decide

theorem exists_toMask_eq (m : Nibble) : ∃ c, toMask c = m := ⟨condOfMask m, toMask_condOfMask m⟩

/-- The real conditions are those of masks 0 to 13 (10_state.md R23, R24). -/
theorem isReal_iff_toMask_lt (c : Cond) : c.isReal = true ↔ (toMask c).toNat < 14 := by
  cases c <;> decide

/-! ### What `decode` gives (41_decode.md R83 to R86) -/

theorem decode_reserved {w : Word} (hg : group w = 11#4) (hsub : isReservedSubGroup (subGroup w) = true) :
    decode w = .ok mkUndefinedReserved := by
  simp [decode, decodeMisc, hg, hsub]

theorem decode_unclassified_misc {w : Word} (hg : group w = 11#4) (hsub : isReservedSubGroup (subGroup w) = false) :
    decode w = .raise (.unclassified .misc w) := by
  simp [decode, decodeMisc, hg, hsub]

theorem decode_permanent {w : Word} (hg : group w = 13#4) (hsub : subGroup w = toMask .al) :
    decode w = .ok mkUndefinedPermanent := by
  simp [decode, decodeBccSwi, hg, hsub]

theorem decode_interrupt {w : Word} (hg : group w = 13#4) (hsub : subGroup w = toMask .nv) :
    decode w = .ok (mkSoftwareInterrupt (lowByte w)) := by
  simp [decode, decodeBccSwi, hg, hsub]

theorem decode_branch {w : Word} {c : Cond} (hg : group w = 13#4) (hsub : subGroup w = toMask c)
    (hc : c.isReal = true) : decode w = .ok (mkCondBranch c hc (lowByte w)) := by
  have ha : c ≠ .al := by rintro rfl; cases hc
  have hn : c ≠ .nv := by rintro rfl; cases hc
  simp [decode, decodeBccSwi, hg, hsub, ha, hn]

theorem decode_unclassified_top {w : Word} (h11 : group w ≠ 11#4) (h13 : group w ≠ 13#4) :
    decode w = .raise (.unclassified .top w) := by
  simp [decode, h11, h13]

/-! ### The row of a word, by its group -/

theorem decodeInstr_of_misc {w : Word} (hg : group w = 11#4) :
    decodeInstr w = decodeMiscRow (subGroup w) (lowByte w) := by
  simp [decodeInstr, hg]

theorem decodeInstr_of_cbSwi {w : Word} (hg : group w = 13#4) :
    decodeInstr w = decodeCbSwiRow (subGroup w) (lowByte w) := by
  simp [decodeInstr, hg]

end Sys2Proof

namespace Sys2Proof.Machine

/-! ### The rows' meanings deliver what `decode` gives -/

theorem exec_decodeMiscRow (sub : Nibble) (low : Byte) (s : State) :
    exec (decodeMiscRow sub low) s =
      if isReservedSubGroup sub then decodesTo (wordOf (fieldsByte 11#4 sub) low) mkUndefinedReserved s
      else decodeRaises .misc (wordOf (fieldsByte 11#4 sub) low) s := by
  obtain ⟨c, rfl⟩ := exists_toMask_eq sub
  cases c <;> rfl

theorem exec_decodeCbSwiRow_branch {c : Cond} (hc : c.isReal = true) (low : Byte) (s : State) :
    exec (decodeCbSwiRow (Sys2Proof.toMask c) low) s =
      decodesTo (wordOf (fieldsByte 13#4 (Sys2Proof.toMask c)) low) (mkCondBranch c hc low) s := by
  cases c with
  | al | nv => cases hc
  | eq | ne | cs | cc | mi | pl | vs | vc | hi | ls | ge | lt | gt | le => rfl

theorem exec_decodeCbSwiRow_permanent (low : Byte) (s : State) :
    exec (decodeCbSwiRow (Sys2Proof.toMask .al) low) s =
      decodesTo (wordOf (fieldsByte 13#4 (Sys2Proof.toMask .al)) low) mkUndefinedPermanent s := rfl

theorem exec_decodeCbSwiRow_interrupt (low : Byte) (s : State) :
    exec (decodeCbSwiRow (Sys2Proof.toMask .nv) low) s =
      decodesTo (wordOf (fieldsByte 13#4 (Sys2Proof.toMask .nv)) low) (mkSoftwareInterrupt low) s := rfl

theorem exec_decodeInstr_of_misc {w : Word} (hg : group w = 11#4) (s : State) :
    exec (decodeInstr w) s = .next (deliverDecode w (decode w) s) := by
  have hw := wordOf_fieldsByte_lowByte w
  rw [decodeInstr_of_misc hg, exec_decodeMiscRow, ← hg, hw]
  cases hsub : isReservedSubGroup (subGroup w) with
  | true => rw [decode_reserved hg hsub, if_pos rfl, decodesTo_eq]
  | false => rw [decode_unclassified_misc hg hsub, if_neg Bool.false_ne_true, decodeRaises_eq]

theorem exec_decodeInstr_of_cbSwi {w : Word} (hg : group w = 13#4) (s : State) :
    exec (decodeInstr w) s = .next (deliverDecode w (decode w) s) := by
  have hw := wordOf_fieldsByte_lowByte w
  obtain ⟨c, hc⟩ := exists_toMask_eq (subGroup w)
  have hsub := hc.symm
  rw [hg, hsub] at hw
  rw [decodeInstr_of_cbSwi hg, hsub]
  by_cases ha : c = .al
  · subst ha
    rw [decode_permanent hg hsub, exec_decodeCbSwiRow_permanent, hw, decodesTo_eq]
  by_cases hn : c = .nv
  · subst hn
    rw [decode_interrupt hg hsub, exec_decodeCbSwiRow_interrupt, hw, decodesTo_eq]
  have hreal := isReal_of_ne ha hn
  rw [decode_branch hg hsub hreal, exec_decodeCbSwiRow_branch hreal, hw, decodesTo_eq]

theorem exec_decodeInstr_of_unclassified_group {w : Word} (h11 : group w ≠ 11#4) (h13 : group w ≠ 13#4) (s : State) :
    exec (decodeInstr w) s = .next (deliverDecode w (decode w) s) := by
  have hw := groupWordOf_group_lowTwelve w
  obtain ⟨c, hg⟩ := exists_toMask_eq (group w)
  rw [decode_unclassified_top h11 h13, ← decodeRaises_eq, decodeInstr]
  generalize lowTwelve w = low at hw ⊢
  rw [← hg] at h11 h13 hw ⊢
  subst hw
  cases c with
  | lt => exact absurd rfl h11
  | le => exact absurd rfl h13
  | eq | ne | cs | cc | mi | pl | vs | vc | hi | ls | ge | gt | al | nv => rfl

/-- The meaning of a word's row delivers exactly what the dispatcher gives for the word (R83, R92). -/
theorem exec_decodeInstr (w : Word) (s : State) :
    exec (decodeInstr w) s = .next (deliverDecode w (decode w) s) := by
  by_cases h11 : group w = 11#4
  · exact exec_decodeInstr_of_misc h11 s
  by_cases h13 : group w = 13#4
  · exact exec_decodeInstr_of_cbSwi h13 s
  exact exec_decodeInstr_of_unclassified_group h11 h13 s

/-! ### The decoder's ports -/

theorem decPorts_mkCondBranch (w : Word) (c : Cond) (hc : c.isReal = true) (b : Byte) :
    decPorts w (.ok (mkCondBranch c hc b)) =
      { word := w, err := 0#1, errCode := 0#4, out := some { tag := 0#3, cond := Sys2Proof.toMask c, field := b } } := by
  simp [decPorts, mkCondBranch, variantTag, variantCond, variantField, twos8_sext8]

theorem decPorts_mkSoftwareInterrupt (w : Word) (b : Byte) :
    decPorts w (.ok (mkSoftwareInterrupt b)) =
      { word := w, err := 0#1, errCode := 0#4, out := some { tag := 1#3, cond := 0#4, field := b } } := by
  simp [decPorts, mkSoftwareInterrupt, variantTag, variantCond, variantField, zext8]

theorem decPorts_mkUndefinedPermanent (w : Word) : decPorts w (.ok mkUndefinedPermanent) =
    { word := w, err := 0#1, errCode := 0#4, out := some { tag := 2#3, cond := 0#4, field := 0#8 } } := rfl

theorem decPorts_mkUndefinedReserved (w : Word) : decPorts w (.ok mkUndefinedReserved) =
    { word := w, err := 0#1, errCode := 0#4, out := some { tag := 3#3, cond := 0#4, field := 0#8 } } := rfl

theorem decPorts_unclassified (w x : Word) (level : Level) : decPorts w (.raise (.unclassified level x)) =
    { word := w, err := 1#1, errCode := 3#4, out := none } := rfl

/-- Settles O20: each of the five ranges fixes the group and the sub-group, and with them what `decode` gives. -/
theorem decoderPortsFollowOutcome : Obligations.DecoderPortsFollowOutcome := by
  intro w
  split_ifs with hbranch hinterrupt hpermanent hreserved
  · obtain ⟨hlo, hhi⟩ := hbranch
    have hg : group w = 13#4 := (group_eq_cbSwi_iff w).mpr (by omega)
    have hsub : Sys2Proof.toMask (condOfMask (subGroup w)) = subGroup w := toMask_condOfMask _
    have hc : (condOfMask (subGroup w)).isReal = true := by
      rw [isReal_iff_toMask_lt, hsub, subGroup_toNat]
      omega
    rw [decode_branch hg hsub.symm hc, decPorts_mkCondBranch, hsub, subGroup_eq_ofNat, lowByte_eq_ofNat]
  · have hg : group w = 13#4 := (group_eq_cbSwi_iff w).mpr (by omega)
    have hsub : subGroup w = Sys2Proof.toMask .nv := (subGroup_eq_nv_iff w).mpr (by omega)
    rw [decode_interrupt hg hsub, decPorts_mkSoftwareInterrupt, lowByte_eq_ofNat]
  · have hg : group w = 13#4 := (group_eq_cbSwi_iff w).mpr (by omega)
    have hsub : subGroup w = Sys2Proof.toMask .al := (subGroup_eq_al_iff w).mpr (by omega)
    rw [decode_permanent hg hsub, decPorts_mkUndefinedPermanent]
  · obtain ⟨hgroup, hmem⟩ := hreserved
    have hg : group w = 11#4 := (group_eq_misc_iff w).mpr hgroup
    have hsub : isReservedSubGroup (subGroup w) = true := by
      rwa [isReservedSubGroup_iff, subGroup_toNat]
    rw [decode_reserved hg hsub, decPorts_mkUndefinedReserved]
  · have h13 : group w ≠ 13#4 := by
      rw [Ne, group_eq_cbSwi_iff]
      omega
    by_cases h11 : group w = 11#4
    · have hsub : isReservedSubGroup (subGroup w) = false := by
        rw [Bool.eq_false_iff, Ne, isReservedSubGroup_iff, subGroup_toNat]
        exact fun hmem => hreserved ⟨(group_eq_misc_iff w).mp h11, hmem⟩
      rw [decode_unclassified_misc h11 hsub, decPorts_unclassified]
    · rw [decode_unclassified_top h11 h13, decPorts_unclassified]

end Sys2Proof.Machine
end

section
/-! PROOFS. The encoder's ports: the outcome of `encode` for each value on `enc_tag` (10_state.md R28, R32), and what it
drives. -/

namespace Sys2Proof

/-- The fixed bits of group `0b1101` with a mask below them are the high byte of a word. -/
theorem cbSwi_highBits : ∀ m : Nibble,
    (0b1101#16 <<< 12) ||| (m.setWidth 16 <<< 8) = (fieldsByte 13#4 m).setWidth 16 <<< 8 := by decide

/-- The word `encode` puts together for group `0b1101` (R100, R101), as a number. -/
theorem cbSwi_word_eq_ofNat (m : Nibble) (b : Byte) :
    (0b1101#16 <<< 12) ||| (m.setWidth 16 <<< 8) ||| b.setWidth 16 =
      BitVec.ofNat 16 (0xD000 + 256 * m.toNat + b.toNat) := by
  have hm := m.isLt
  have hb := b.isLt
  have hword := wordOf_toNat (fieldsByte 13#4 m) b
  rw [fieldsByte_toNat, wordOf, ← cbSwi_highBits] at hword
  apply BitVec.eq_of_toNat_eq
  rw [hword, BitVec.toNat_ofNat, BitVec.toNat_ofNat]
  omega

variable {tag : BitVec 3}

theorem encodePorts_branch {cond : Nibble} (htag : tag.toNat = 0) (hcond : cond.toNat < 14) (field : Byte) :
    encodePorts tag cond field = .ok (BitVec.ofNat 16 (0xD000 + 256 * cond.toNat + field.toNat)) := by
  obtain ⟨hlo, hhi⟩ := sext8_wellFormed field
  have hill : ¬ (14 ≤ cond.toNat ∨ sext8 field < -128 ∨ 127 < sext8 field) := by omega
  simp only [encodePorts, htag, encode, encodeWith, toMask_condOfMask, if_neg hill, twos8_sext8, cbSwi_word_eq_ofNat]

theorem encodePorts_illFormedBranch {cond : Nibble} (htag : tag.toNat = 0) (hcond : ¬ cond.toNat < 14) (field : Byte) :
    encodePorts tag cond field =
      .raise (.illFormedVariant (.term (.condBranch (condOfMask cond) (sext8 field)))) := by
  have hill : 14 ≤ cond.toNat ∨ sext8 field < -128 ∨ 127 < sext8 field := by omega
  simp only [encodePorts, htag, encode, encodeWith, toMask_condOfMask, if_pos hill]

theorem encodePorts_interrupt (htag : tag.toNat = 1) (cond : Nibble) (field : Byte) :
    encodePorts tag cond field = .ok (BitVec.ofNat 16 (0xDF00 + field.toNat)) := by
  have hfield := field.isLt
  have hill : ¬ (zext8 field < 0 ∨ 255 < zext8 field) := by unfold zext8; omega
  have hword := cbSwi_word_eq_ofNat 15#4 field
  simp only [encodePorts, htag, encode, encodeWith, if_neg hill]
  simpa [zext8] using hword

theorem encodePorts_permanent (htag : tag.toNat = 2) (cond : Nibble) (field : Byte) :
    encodePorts tag cond field = .ok 0xDE00#16 := by
  simp only [encodePorts, htag, encode, encodeWith, Config.canonUndefPermanent]

theorem encodePorts_reserved (htag : tag.toNat = 3) (cond : Nibble) (field : Byte) :
    encodePorts tag cond field = .ok 0xB100#16 := by
  simp only [encodePorts, htag, encode, encodeWith, Config.canonUndefReserved]

theorem encodePorts_unpredictable (htag : tag.toNat = 4) (cond : Nibble) (field : Byte) :
    encodePorts tag cond field = .raise (.unencodable .unpredictable) := by
  simp only [encodePorts, htag, encode, encodeWith]

theorem encodePorts_unusedTag (htag : 4 < tag.toNat) (cond : Nibble) (field : Byte) :
    encodePorts tag cond field = .raise (.illFormedVariant (.ports tag cond field)) := by
  have hused : tag.toNat = 5 ∨ tag.toNat = 6 ∨ tag.toNat = 7 := by omega
  rcases hused with h | h | h <;> simp only [encodePorts, h]

/-- A branch on mask 14 or 15 and an unused tag are refused alike (R104, R119). -/
theorem encodePorts_illFormed {cond : Nibble} (h : tag.toNat = 0 ∧ ¬ cond.toNat < 14 ∨ 4 < tag.toNat) (field : Byte) :
    ∃ x, encodePorts tag cond field = .raise (.illFormedVariant x) := by
  rcases h with ⟨htag, hcond⟩ | htag
  · exact ⟨_, encodePorts_illFormedBranch htag hcond field⟩
  · exact ⟨_, encodePorts_unusedTag htag cond field⟩

/-- The port values for which `encode` gives a word. -/
theorem encodePorts_ok_iff (tag : BitVec 3) (cond : Nibble) (field : Byte) :
    (∃ w, encodePorts tag cond field = .ok w) ↔
      tag.toNat = 0 ∧ cond.toNat < 14 ∨ tag.toNat = 1 ∨ tag.toNat = 2 ∨ tag.toNat = 3 := by
  constructor
  · rintro ⟨w, hw⟩
    by_contra hnone
    have hraise : tag.toNat = 4 ∨ (tag.toNat = 0 ∧ ¬ cond.toNat < 14 ∨ 4 < tag.toNat) := by omega
    rcases hraise with htag | hill
    · rw [encodePorts_unpredictable htag] at hw
      cases hw
    · obtain ⟨x, hx⟩ := encodePorts_illFormed hill field
      rw [hx] at hw
      cases hw
  · rintro (⟨htag, hcond⟩ | htag | htag | htag)
    · exact ⟨_, encodePorts_branch htag hcond field⟩
    · exact ⟨_, encodePorts_interrupt htag cond field⟩
    · exact ⟨_, encodePorts_permanent htag cond field⟩
    · exact ⟨_, encodePorts_reserved htag cond field⟩

end Sys2Proof

namespace Sys2Proof.Machine

/-- The encoder's output wires for every value on its inputs. -/
theorem encPorts_encodePorts (tag : BitVec 3) (cond : Nibble) (field : Byte) :
    encPorts tag cond field (encodePorts tag cond field) =
      if tag.toNat = 0 ∧ cond.toNat < 14 then
        ⟨tag, cond, field, 0#1, 0#4, some (BitVec.ofNat 16 (0xD000 + 256 * cond.toNat + field.toNat))⟩
      else if tag.toNat = 1 then ⟨tag, cond, field, 0#1, 0#4, some (BitVec.ofNat 16 (0xDF00 + field.toNat))⟩
      else if tag.toNat = 2 then ⟨tag, cond, field, 0#1, 0#4, some 0xDE00#16⟩
      else if tag.toNat = 3 then ⟨tag, cond, field, 0#1, 0#4, some 0xB100#16⟩
      else if tag.toNat = 4 then ⟨tag, cond, field, 1#1, 4#4, none⟩
      else ⟨tag, cond, field, 1#1, 5#4, none⟩ := by
  split_ifs with hbranch hinterrupt hpermanent hreserved hunpredictable
  · rw [encodePorts_branch hbranch.left hbranch.right, encPorts]
  · rw [encodePorts_interrupt hinterrupt, encPorts]
  · rw [encodePorts_permanent hpermanent, encPorts]
  · rw [encodePorts_reserved hreserved, encPorts]
  · rw [encodePorts_unpredictable hunpredictable, encPorts, errCode]
  · obtain ⟨x, hx⟩ := encodePorts_illFormed (tag := tag) (cond := cond) (by omega) field
    rw [hx, encPorts, errCode]

end Sys2Proof.Machine
end

section
/-! PROOFS. The condition-code unit's ports: what each lookup drives, with the values of the tables of
40_condition_codes.md (10_state.md R29 to R31). -/

namespace Sys2Proof.Machine

theorem fmPorts_fromMask (m : Nat) :
    fmPorts m (fromMask m) = if m < 16 then ⟨m, 0#1, some (BitVec.ofNat 4 m)⟩ else ⟨m, 1#1, none⟩ := by
  split_ifs with h
  · rw [fromMask, if_neg (Nat.not_le.mpr h), fmPorts, toMask_condOfMask]
  · rw [fromMask, if_pos (Nat.not_lt.mp h), fmPorts]

theorem toMaskPorts_toMask (c : Cond) :
    toMaskPorts (Sys2Proof.toMask c) = ⟨Sys2Proof.toMask c, Sys2Proof.toMask c⟩ := by
  simp [toMaskPorts]

theorem tmPorts_of_two_letters {c : Cond} {a b : Byte} (h : toMnemonic c = [a, b]) :
    tmPorts (Sys2Proof.toMask c) = ⟨Sys2Proof.toMask c, 2#2, a, b⟩ := by
  simp [tmPorts, h]

theorem tmPorts_extensionMarker : tmPorts (Sys2Proof.toMask .nv) = ⟨15#4, 0#2, 0#8, 0#8⟩ := rfl

theorem allPorts_eq (k : Nibble) : allPorts k = ⟨k, k⟩ := by
  simp [allPorts]

end Sys2Proof.Machine
end

section
/-! PROOFS. One step on any operation: `perform` is the state in which the operation's own unit has driven its ports and
its outcome is received, and a step answers exactly that, except where a stream halfword's decode raises. What an operation
delivers and what it leaves unchanged is then said once, of `perform`. -/

namespace Sys2Proof.Machine

open Sys2Proof.Claims

/-- The state after an operation that answers one: its unit's ports driven, its outcome received. -/
def perform : Request → State → State
  | .decode w, s => deliverDecode w (decode w) s
  | .stream b0 b1, s => deliverDecode (wordOfBytes b0 b1) (decode (wordOfBytes b0 b1)) s
  | .encodePorts tag cond field, s => opEncodePorts tag cond field s
  | .encode v, s => opEncode v s
  | .fromMask m, s => opFromMask m s
  | .toMask c, s => opToMask c s
  | .fromMnemonic text, s => opFromMnemonic text s
  | .toMnemonic c, s => opToMnemonic c s
  | .allAt k, s => opAllAt k s
  | .all, s => opAll s

/-! ### What an operation delivers and leaves unchanged -/

@[simp] theorem perform_outcomes (r : Request) (s : State) :
    (perform r s).outcomes = s.outcomes ++ [respond r] := by cases r <;> rfl

@[simp] theorem perform_pending (r : Request) (s : State) : (perform r s).pending = s.pending := by cases r <;> rfl

variable {r : Request}

theorem perform_dec (h : usesDecoder r = false) (s : State) : (perform r s).dec = s.dec := by
  cases r with
  | decode | stream => cases h
  | _ => rfl

theorem perform_enc (h : usesEncoder r = false) (s : State) : (perform r s).enc = s.enc := by
  cases r with
  | encodePorts => cases h
  | _ => rfl

theorem perform_fm (h : ∀ m, r ≠ .fromMask m) (s : State) : (perform r s).fm = s.fm := by
  cases r with
  | fromMask m => exact absurd rfl (h m)
  | _ => rfl

theorem perform_toMask (h : ∀ c, r ≠ .toMask c) (s : State) : (perform r s).toMask = s.toMask := by
  cases r with
  | toMask c => exact absurd rfl (h c)
  | _ => rfl

theorem perform_tm (h : ∀ c, r ≠ .toMnemonic c) (s : State) : (perform r s).tm = s.tm := by
  cases r with
  | toMnemonic c => exact absurd rfl (h c)
  | _ => rfl

theorem perform_fn (h : ∀ text, r ≠ .fromMnemonic text) (s : State) : (perform r s).fn = s.fn := by
  cases r with
  | fromMnemonic text => exact absurd rfl (h text)
  | _ => rfl

theorem perform_all (h : ∀ k, r ≠ .allAt k) (s : State) : (perform r s).all = s.all := by
  cases r with
  | allAt k => exact absurd rfl (h k)
  | _ => rfl

theorem with_pending_eq_self {s : State} {rs : List Request} (h : s.pending = rs) :
    { s with pending := rs } = s := by
  subst h
  rfl

/-! ### A step -/

variable (s : State) (rest : List Request)

/-- A step on an operation outside a stream performs it, with the operations after it still to come (R121). -/
theorem step_eq_perform (h : r.isStream = false) :
    step { s with pending := r :: rest } = .next (perform r { s with pending := rest }) := by
  cases r with
  | decode w => exact exec_decodeInstr w _
  | stream => cases h
  | _ => rfl

theorem step_stream_eq_hardStop (b0 b1 : Byte) :
    step { s with pending := .stream b0 b1 :: rest } =
      hardStop (.next (perform (.stream b0 b1) { s with pending := rest })) := by
  rw [step_stream, exec_decodeInstr, perform]

/-- A caller loop performs the decode of a halfword that gives a variant. -/
theorem step_stream_of_ok {b0 b1 : Byte} {v : Variant} (h : decode (wordOfBytes b0 b1) = .ok v) :
    step { s with pending := .stream b0 b1 :: rest } =
      .next (perform (.stream b0 b1) { s with pending := rest }) := by
  rw [step_stream_eq_hardStop, perform, h, hardStop_ok]

/-- A caller loop stops at a halfword whose decode raises `Unclassified`, with that fault (R122). -/
theorem step_stream_of_unclassified {b0 b1 : Byte} {level : Level} {w : Word}
    (h : decode (wordOfBytes b0 b1) = .raise (.unclassified level w)) :
    step { s with pending := .stream b0 b1 :: rest } = .fault (.unclassified level w) := by
  rw [step_stream_eq_hardStop, perform, h, hardStop_unclassified]

/-- Whenever a step answers a next state, that state is the operation performed. -/
theorem eq_perform_of_step {t : State} (h : step { s with pending := r :: rest } = .next t) :
    t = perform r { s with pending := rest } := by
  cases hr : r.isStream with
  | false =>
    rw [step_eq_perform s rest hr] at h
    exact (Host.Outcome.next.inj h).symm
  | true =>
    cases r with
    | stream b0 b1 =>
      rw [step_stream_eq_hardStop] at h
      exact (Host.Outcome.next.inj (hardStop_next h)).symm
    | _ => cases hr

end Sys2Proof.Machine
end

section
/-! PROOFS. The statements about steps and runs, each from what `perform` delivers and leaves unchanged. -/

namespace Sys2Proof.Machine

open Sys2Proof.Claims

/-- Settles O48: the outcome is `respond`, which does not see the state; a stream halfword has it or the fault of its own
error. -/
theorem outcomeIsFunctionOfInputsAlone : Obligations.OutcomeIsFunctionOfInputsAlone := by
  refine ⟨fun r hr s rest => ?_, fun b0 b1 => ⟨fun v hv s rest => ?_, fun level w hw s rest => ?_⟩⟩
  · exact ⟨_, step_eq_perform s rest hr, perform_outcomes _ _, perform_pending _ _⟩
  · refine ⟨_, step_stream_of_ok s rest hv, ?_, perform_pending _ _⟩
    rw [perform_outcomes, respond, hv]
  · exact step_stream_of_unclassified s rest hw

/-- Settles O49: a step that answers a next state has performed the operation, and each unit's frame is `perform`'s. -/
theorem unitsAreIndependent : Obligations.UnitsAreIndependent := by
  intro s t r rest h
  rw [eq_perform_of_step s rest h]
  exact ⟨perform_outcomes _ _, perform_pending _ _, fun h => perform_dec h _, fun h => perform_enc h _,
    fun h => perform_fm h _, fun h => perform_toMask h _, fun h => perform_tm h _, fun h => perform_fn h _,
    fun h => perform_all h _⟩

/-- Settles O50, by induction on the operations: the first step performs the first of them, and the run goes on from the
state it answers, which still has the others to come. -/
theorem runDeliversEveryOutcomeInOrder : Obligations.RunDeliversEveryOutcomeInOrder := by
  intro s rs hrs
  induction rs generalizing s with
  | nil => exact ⟨_, rfl, rfl, (List.append_nil _).symm⟩
  | cons r rest ih =>
    obtain ⟨hr, hrest⟩ := List.forall_mem_cons.mp hrs
    obtain ⟨t, hrun, hdone, houtcomes⟩ := ih (perform r { s with pending := rest }) hrest
    rw [with_pending_eq_self (perform_pending _ _)] at hrun
    refine ⟨t, (run_of_next (step_eq_perform s rest hr) rest.length).trans hrun, hdone, ?_⟩
    rw [houtcomes, perform_outcomes, List.append_assoc, List.map_cons, List.singleton_append]

/-- Settles O34: the step performs `encode` at the ports, and each tag's outcome drives its own row of the table. -/
theorem encoderPortStepCompletes : Obligations.EncoderPortStepCompletes := by
  intro s tag cond field rest
  refine ⟨encodePorts tag cond field, ?_, encodePorts_ok_iff tag cond field⟩
  rw [step_eq_perform s rest rfl, ← encPorts_encodePorts]
  rfl

/-- Settles O46: each step performs its lookup, and what the lookup drives is the unit's own function of the input. -/
theorem conditionUnitStepsComplete : Obligations.ConditionUnitStepsComplete := by
  intro s rest
  refine ⟨fun m => ?_, fun c => ?_, fun text c h => ?_, fun text e h => ?_, fun c a b h => ?_, ?_, fun k c h => ?_, ?_⟩
  · rw [step_eq_perform s rest rfl, ← fmPorts_fromMask]
    rfl
  · rw [step_eq_perform s rest rfl, ← toMaskPorts_toMask]
    rfl
  · rw [step_eq_perform s rest rfl, perform, opFromMnemonic, h]
    rfl
  · rw [step_eq_perform s rest rfl, perform, opFromMnemonic, h]
    rfl
  · rw [step_eq_perform s rest rfl, ← tmPorts_of_two_letters h, ← h]
    rfl
  · rw [step_eq_perform s rest rfl, ← tmPorts_extensionMarker]
    rfl
  · subst h
    rw [step_eq_perform s rest rfl, perform, opAllAt, allPorts_eq, condOfMask_toMask]
    rfl
  · exact step_eq_perform s rest rfl

/-- Settles O54: the outputs written in `State.reset` are evaluated against each unit's function of the inputs there. -/
theorem resetIsCombinational : Obligations.ResetIsCombinational := ⟨by decide, rfl, rfl⟩

end Sys2Proof.Machine
end

section
/-! PROOF. The statement of 20_memory.md: the byte order in which a caller forms a word and writes it back (R40). -/

namespace Sys2Proof

/-- `wordOfBytes` is `wordOf` with the bytes exchanged, so the byte at the higher address has the weight 256 (R40). -/
theorem wordOfBytes_toNat (b0 b1 : Byte) : (wordOfBytes b0 b1).toNat = b0.toNat + 256 * b1.toNat := by
  rw [wordOfBytes_eq, wordOf_toNat, Nat.add_comm]

theorem bytesOfWord_wordOfBytes (b0 b1 : Byte) : bytesOfWord (wordOfBytes b0 b1) = [b0, b1] := by
  rw [wordOfBytes_eq, bytesOfWord, lowByte_wordOf, highByte_wordOf]

/-- Settles O57: forming a word weighs its bytes by their addresses, and writing a word and forming one undo each other,
since the bytes written for a word are its low byte, then its high byte. -/
theorem halfwordIsLittleEndian : Obligations.HalfwordIsLittleEndian :=
  ⟨wordOfBytes_toNat, fun w => ⟨lowByte w, highByte w, rfl, wordOfBytes_lowByte_highByte w⟩, bytesOfWord_wordOfBytes⟩

end Sys2Proof
end

section
/-! PROOFS. Which words decode to which variant, with the variant's fields read off the word, said once as an equivalence
over all words and terms (30_encoding.md R56 to R63); and the words `encode` gives for a branch and an interrupt. -/

namespace Sys2Proof

open Sys2Proof.Claims

/-! ### From a word to the variant it decodes to -/

theorem decodesTo_of_ok {w : Word} {u : Variant} (h : decode w = .ok u) : DecodesTo w u.val := ⟨u, rfl, h⟩

theorem decodesTo_iff_of_ok {w : Word} {u : Variant} (h : decode w = .ok u) (v : VariantTerm) :
    DecodesTo w v ↔ v = u.val := by
  constructor
  · rintro ⟨u', rfl, hu'⟩
    rw [h] at hu'
    rw [Result.ok.inj hu']
  · rintro rfl
    exact decodesTo_of_ok h

theorem not_decodesTo_of_raise {w : Word} {e : Err} (h : decode w = .raise e) (v : VariantTerm) : ¬ DecodesTo w v := by
  rintro ⟨u, -, hu⟩
  rw [h] at hu
  cases hu

/-- Everything a word can decode to, and from which fields (R83, R85 to R91). -/
theorem decodesTo_cases {w : Word} {v : VariantTerm} (h : DecodesTo w v) :
    (group w = 11#4 ∧ isReservedSubGroup (subGroup w) = true ∧ v = .undefinedReserved) ∨
    (group w = 13#4 ∧ subGroup w = toMask .al ∧ v = .undefinedPermanent) ∨
    (group w = 13#4 ∧ subGroup w = toMask .nv ∧ v = .softwareInterrupt (zext8 (lowByte w))) ∨
    ∃ c, group w = 13#4 ∧ subGroup w = toMask c ∧ c.isReal = true ∧ v = .condBranch c (sext8 (lowByte w)) := by
  by_cases h11 : group w = 11#4
  · cases hsub : isReservedSubGroup (subGroup w) with
    | true => exact .inl ⟨h11, rfl, (decodesTo_iff_of_ok (decode_reserved h11 hsub) v).mp h⟩
    | false => exact absurd h (not_decodesTo_of_raise (decode_unclassified_misc h11 hsub) v)
  by_cases h13 : group w = 13#4
  · obtain ⟨c, hc⟩ := exists_toMask_eq (subGroup w)
    have hsub := hc.symm
    by_cases ha : c = .al
    · subst ha
      exact .inr (.inl ⟨h13, hsub, (decodesTo_iff_of_ok (decode_permanent h13 hsub) v).mp h⟩)
    by_cases hn : c = .nv
    · subst hn
      exact .inr (.inr (.inl ⟨h13, hsub, (decodesTo_iff_of_ok (decode_interrupt h13 hsub) v).mp h⟩))
    have hreal := isReal_of_ne ha hn
    exact .inr (.inr (.inr ⟨c, h13, hsub, hreal, (decodesTo_iff_of_ok (decode_branch h13 hsub hreal) v).mp h⟩))
  · exact absurd h (not_decodesTo_of_raise (decode_unclassified_top h11 h13) v)

theorem decodesTo_undefinedReserved_iff (w : Word) :
    DecodesTo w .undefinedReserved ↔ group w = 11#4 ∧ isReservedSubGroup (subGroup w) = true := by
  constructor
  · intro h
    simpa using decodesTo_cases h
  · rintro ⟨hg, hsub⟩
    exact decodesTo_of_ok (decode_reserved hg hsub)

theorem decodesTo_undefinedPermanent_iff (w : Word) :
    DecodesTo w .undefinedPermanent ↔ group w = 13#4 ∧ subGroup w = toMask .al := by
  constructor
  · intro h
    simpa using decodesTo_cases h
  · rintro ⟨hg, hsub⟩
    exact decodesTo_of_ok (decode_permanent hg hsub)

theorem decodesTo_softwareInterrupt_iff (w : Word) (i : Int) :
    DecodesTo w (.softwareInterrupt i) ↔ group w = 13#4 ∧ subGroup w = toMask .nv ∧ i = zext8 (lowByte w) := by
  constructor
  · intro h
    simpa using decodesTo_cases h
  · rintro ⟨hg, hsub, rfl⟩
    exact decodesTo_of_ok (decode_interrupt hg hsub)

theorem decodesTo_condBranch_iff (w : Word) (c : Cond) (o : Int) :
    DecodesTo w (.condBranch c o) ↔
      group w = 13#4 ∧ subGroup w = toMask c ∧ c.isReal = true ∧ o = sext8 (lowByte w) := by
  constructor
  · intro h
    obtain ⟨-, -, hv⟩ | ⟨-, -, hv⟩ | ⟨-, -, hv⟩ | ⟨c', hg, hsub, hreal, hv⟩ := decodesTo_cases h
    · cases hv
    · cases hv
    · cases hv
    · cases hv
      exact ⟨hg, hsub, hreal, rfl⟩
  · rintro ⟨hg, hsub, hreal, rfl⟩
    exact decodesTo_of_ok (decode_branch hg hsub hreal)

theorem not_decodesTo_unpredictable (w : Word) : ¬ DecodesTo w .unpredictable := by
  intro h
  simpa using decodesTo_cases h

/-! ### From a branch or an interrupt to its word -/

/-- A branch in range is what the ports can hold: its mask and the byte of its offset (R100). -/
theorem encode_condBranch {c : Cond} {o : Int} (hc : c.isReal = true) (hlo : -128 ≤ o) (hhi : o ≤ 127) :
    encode (.condBranch c o) = .ok (BitVec.ofNat 16 (0xD000 + 256 * (toMask c).toNat + (o % 256).toNat)) := by
  have hports : encodePorts 0#3 (toMask c) (twos8 o) = encode (.condBranch c o) := by
    simp [encodePorts, sext8_twos8 hlo hhi]
  have hbyte : (twos8 o).toNat = (o % 256).toNat := by
    have := twos8_toNat o
    omega
  rw [← hports, encodePorts_branch rfl ((isReal_iff_toMask_lt c).mp hc), hbyte]

/-- An interrupt in range is what the ports can hold: the byte that is its immediate (R101). -/
theorem encode_softwareInterrupt {i : Int} (hlo : 0 ≤ i) (hhi : i ≤ 255) :
    encode (.softwareInterrupt i) = .ok (BitVec.ofNat 16 (0xDF00 + i.toNat)) := by
  have hbyte : (twos8 i).toNat = i.toNat := by
    have := twos8_toNat i
    omega
  have hports : encodePorts 1#3 0#4 (twos8 i) = encode (.softwareInterrupt i) := by
    simp [encodePorts, zext8, hbyte, hlo]
  rw [← hports, encodePorts_interrupt rfl, hbyte]

end Sys2Proof
end

section
/-! PROOFS. The statements of 30_encoding.md: each from the fields of the words that decode to the variant, as numbers. -/

namespace Sys2Proof

open Sys2Proof.Claims

/-- Settles O13: group 13 and sub-group 14 are the high byte 0xDE, and the low byte is free. -/
theorem permanentlyUndefinedSpace : Obligations.PermanentlyUndefinedSpace := by
  intro w
  rw [decodesTo_undefinedPermanent_iff, group_eq_cbSwi_iff, subGroup_eq_al_iff]
  omega

/-- Settles O14: group 11 with each reserved sub-group is one high byte; the canonical word is evaluated to have them. -/
theorem reservedSpaceAndCanonicalWord : Obligations.ReservedSpaceAndCanonicalWord := by
  refine ⟨fun w => ?_, _, rfl, (decodesTo_undefinedReserved_iff _).mpr (by decide)⟩
  rw [decodesTo_undefinedReserved_iff, group_eq_misc_iff, isReservedSubGroup_iff, subGroup_toNat]
  simp only [reservedSubs, List.mem_cons, List.not_mem_nil, or_false]
  omega

/-- Settles O15: none of the variants a word decodes to is `Unpredictable`, no row of a word is, and `encode` raises. -/
theorem unpredictableHasNoWord : Obligations.UnpredictableHasNoWord := by
  intro w
  refine ⟨not_decodesTo_unpredictable w, decodeInstr_ne_unpredictable w, ?_⟩
  rw [encode, encodeWith]
  nofun

/-- Settles O22: the offset is `sext8` of the low byte, and the word of a branch has `o mod 256` as its low byte. -/
theorem branchOffsetIsSignedLowByte : Obligations.BranchOffsetIsSignedLowByte := by
  constructor
  · intro w c o h
    obtain ⟨-, -, -, rfl⟩ := (decodesTo_condBranch_iff w c o).mp h
    refine ⟨?_, sext8_wellFormed (lowByte w)⟩
    rw [sext8, lowByte_toNat]
    norm_cast
  · intro c o ha hn hlo hhi
    refine ⟨_, encode_condBranch (isReal_of_ne ha hn) hlo hhi, ?_⟩
    rw [BitVec.toNat_ofNat]
    omega

/-- Settles O23: the immediate is the low byte as a number, and the word of an interrupt is 0xDF00 and the immediate. -/
theorem interruptImmediateIsLowByte : Obligations.InterruptImmediateIsLowByte := by
  constructor
  · intro w i h
    obtain ⟨-, -, rfl⟩ := (decodesTo_softwareInterrupt_iff w i).mp h
    rw [zext8, lowByte_toNat]
    omega
  · intro i hlo hhi
    refine ⟨_, encode_softwareInterrupt hlo hhi, ?_⟩
    rw [BitVec.toNat_ofNat]
    omega

end Sys2Proof
end

section
/-! PROOFS. The condition-code unit on values (40_condition_codes.md): what each lookup gives, as an equivalence over all its
inputs. `all()` lists every condition, in mask order, so the table of R76 is `to_mnemonic` along it, and what holds of the
listed conditions holds of all. -/

namespace Sys2Proof

open Sys2Proof.Claims

/-! ### Masks -/

theorem fromMask_of_lt {m : Nat} (h : m < 16) : fromMask m = .ok (condOfMask (BitVec.ofNat 4 m)) :=
  if_neg (Nat.not_le.mpr h)

theorem fromMask_of_ge {m : Nat} (h : 16 ≤ m) : fromMask m = .raise (.maskOutOfRange m) := if_pos h

theorem toMask_injective : Function.Injective toMask := Function.LeftInverse.injective condOfMask_toMask

theorem toMask_condOfMask_ofNat {m : Nat} (h : m < 16) : (toMask (condOfMask (BitVec.ofNat 4 m))).toNat = m := by
  rw [toMask_condOfMask, BitVec.toNat_ofNat, Nat.mod_eq_of_lt h]

/-- The only error of the decoder is `Unclassified`, with the word it was given (41_decode.md R94). -/
theorem eq_unclassified_of_decode_raise {w : Word} {e : Err} (h : decode w = .raise e) :
    ∃ level, e = .unclassified level w := by
  by_cases h11 : group w = 11#4
  · cases hsub : isReservedSubGroup (subGroup w) with
    | true => cases (decode_reserved h11 hsub).symm.trans h
    | false =>
      cases (decode_unclassified_misc h11 hsub).symm.trans h
      exact ⟨.misc, rfl⟩
  by_cases h13 : group w = 13#4
  · obtain ⟨c, hsub⟩ := exists_toMask_eq (subGroup w)
    by_cases ha : c = .al
    · subst ha
      cases (decode_permanent h13 hsub.symm).symm.trans h
    by_cases hn : c = .nv
    · subst hn
      cases (decode_interrupt h13 hsub.symm).symm.trans h
    cases (decode_branch h13 hsub.symm (isReal_of_ne ha hn)).symm.trans h
  · cases (decode_unclassified_top h11 h13).symm.trans h
    exact ⟨.top, rfl⟩

/-! ### The list of conditions and the table along it -/

theorem mem_allConds (c : Cond) : c ∈ allConds := by cases c <;> decide

theorem allConds_getElem? : ∀ k < 16, allConds[k]? = some (condOfMask (BitVec.ofNat 4 k)) := by decide

theorem canonicalTable_eq_map : canonicalTable = allConds.map fun c => (c, toMnemonic c) := rfl

theorem mem_canonicalTable_iff (c : Cond) (text : List Byte) : (c, text) ∈ canonicalTable ↔ text = toMnemonic c := by
  simp [canonicalTable_eq_map, mem_allConds, eq_comm]

theorem mem_secondSpellings_iff (c : Cond) (text : List Byte) :
    (c, text) ∈ secondSpellings ↔ c = .cs ∧ text = [0x68, 0x73] ∨ c = .cc ∧ text = [0x6C, 0x6F] := by
  simp [secondSpellings]

theorem toMnemonic_injective : Function.Injective toMnemonic := fun c d h =>
  List.inj_on_of_nodup_map (l := allConds) (by decide) (mem_allConds c) (mem_allConds d) h

/-- Only the extension marker has the empty string (R69). -/
theorem toMnemonic_eq_nil_iff (c : Cond) : toMnemonic c = [] ↔ c = .nv := toMnemonic_injective.eq_iff (b := .nv)

theorem toMnemonic_ne_secondSpelling (c : Cond) : ∀ row ∈ secondSpellings, toMnemonic c ≠ row.2 := by
  cases c <;> decide

/-! ### The accepted strings -/

/-- The strings of R77 are the table's non-empty ones and the second spellings (R76). -/
theorem acceptedMnemonics_perm :
    acceptedMnemonics.Perm (((canonicalTable ++ secondSpellings).filter (·.2 ≠ [])).map Prod.swap) := by decide

theorem mem_acceptedMnemonics_iff (text : List Byte) (c : Cond) :
    (text, c) ∈ acceptedMnemonics ↔ text ≠ [] ∧ (c, text) ∈ canonicalTable ++ secondSpellings := by
  rw [acceptedMnemonics_perm.mem_iff, List.mem_map_swap, List.mem_filter, and_comm, decide_eq_true_iff]

theorem fromMnemonic_of_mem : ∀ row ∈ acceptedMnemonics, fromMnemonic row.1 = .ok row.2 := by decide

/-- A string has an outcome of one of two kinds, by whether a row of the table is found (R79). -/
theorem fromMnemonic_cases (text : List Byte) :
    (∃ c, (text, c) ∈ acceptedMnemonics ∧ fromMnemonic text = .ok c) ∨
      fromMnemonic text = .raise (.unrecognizedMnemonic text) := by
  cases h : acceptedMnemonics.lookup text with
  | none => exact .inr (by rw [fromMnemonic, h])
  | some c =>
    obtain ⟨before, after, hsplit, -⟩ := List.lookup_eq_some_iff.mp h
    exact .inl ⟨c, by simp [hsplit], by rw [fromMnemonic, h]⟩

theorem fromMnemonic_eq_ok_iff (text : List Byte) (c : Cond) :
    fromMnemonic text = .ok c ↔ text ≠ [] ∧ (c, text) ∈ canonicalTable ++ secondSpellings := by
  rw [← mem_acceptedMnemonics_iff]
  constructor
  · intro h
    obtain ⟨d, hmem, hd⟩ | hraise := fromMnemonic_cases text
    · cases hd.symm.trans h
      exact hmem
    · cases hraise.symm.trans h
  · exact fromMnemonic_of_mem (text, c)

/-- What an accepted string is: its condition's canonical mnemonic, or a second spelling of it (R68, R76). -/
theorem fromMnemonic_ok_cases {text : List Byte} {c : Cond} (h : fromMnemonic text = .ok c) :
    text = toMnemonic c ∨ (c, text) ∈ secondSpellings := by
  obtain ⟨-, hmem⟩ := (fromMnemonic_eq_ok_iff text c).mp h
  exact (List.mem_append.mp hmem).imp_left (mem_canonicalTable_iff c text).mp

theorem fromMnemonic_toMnemonic {c : Cond} (hc : c ≠ .nv) : fromMnemonic (toMnemonic c) = .ok c :=
  (fromMnemonic_eq_ok_iff _ c).mpr
    ⟨mt (toMnemonic_eq_nil_iff c).mp hc, List.mem_append_left _ ((mem_canonicalTable_iff c _).mpr rfl)⟩

theorem fromMnemonic_secondSpelling : ∀ row ∈ secondSpellings, fromMnemonic row.2 = .ok row.1 := by decide

theorem fromMnemonic_nil : fromMnemonic [] = .raise (.unrecognizedMnemonic []) := rfl

theorem fromMnemonic_ne_nv (text : List Byte) : fromMnemonic text ≠ .ok .nv := by
  intro h
  obtain ⟨hne, -⟩ := (fromMnemonic_eq_ok_iff text .nv).mp h
  obtain hnil | hsecond := fromMnemonic_ok_cases h
  · exact hne hnil
  · simp [mem_secondSpellings_iff] at hsecond

end Sys2Proof
end

section
/-! PROOFS. The statements of 40_condition_codes.md, each from what the lookups give. -/

namespace Sys2Proof

open Sys2Proof.Claims

/-- Settles O36: the bound 16 decides between the two outcomes, and the decoder raises no error but `Unclassified`. -/
theorem fromMaskNeverClamps : Obligations.FromMaskNeverClamps := by
  refine ⟨fun m => ⟨fun h => ⟨_, fromMask_of_lt h, toMask_condOfMask_ofNat h⟩, fromMask_of_ge, fun x => ?_⟩,
    fun w x h => ?_⟩
  · rcases lt_or_ge m 16 with hlt | hge
    · simp [fromMask_of_lt hlt, hlt]
    · simp [fromMask_of_ge hge, hge, eq_comm]
  · obtain ⟨level, hlevel⟩ := eq_unclassified_of_decode_raise h
    cases hlevel

/-- Settles O37: `condOfMask` is the inverse of `toMask` on both sides. -/
theorem maskBijection : Obligations.MaskBijection :=
  ⟨fun c => (toMask c).isLt, fun _ _ h => toMask_injective h, fun _ h => ⟨_, toMask_condOfMask_ofNat h⟩⟩

/-- Settles O39: the table is `to_mnemonic` along `all()`, whose element `k` has the mask `k`. -/
theorem conditionTable : Obligations.ConditionTable := by
  refine ⟨rfl, fun k hk => ⟨(_, toMnemonic _), ?_, toMask_condOfMask_ofNat hk, rfl⟩⟩
  rw [canonicalTable_eq_map, List.getElem?_map, allConds_getElem? k hk]
  rfl

/-- Settles O40: a row for the string decides between the outcomes, and the rows are those of the table and the second
spellings with a non-empty string. -/
theorem fromMnemonicMatchesExactly : Obligations.FromMnemonicMatchesExactly := by
  refine fun text => ⟨fromMnemonic_eq_ok_iff text, fun hnone => ?_⟩
  obtain ⟨c, -, hok⟩ | hraise := fromMnemonic_cases text
  · obtain ⟨hne, hmem⟩ := (fromMnemonic_eq_ok_iff text c).mp hok
    exact ((hnone c).elim hne (absurd hmem)).elim
  · exact hraise

/-- Settles O42: `to_mnemonic` repeats no string along `all()`, and never gives a second spelling. -/
theorem canonicalMnemonicsDistinct : Obligations.CanonicalMnemonicsDistinct :=
  ⟨fun _ _ h => toMnemonic_injective h, fun c => (toMnemonic_eq_nil_iff c).not, fun _ _ => fromMnemonic_ok_cases,
    fun row hrow => ⟨fromMnemonic_secondSpelling row hrow, fun c => toMnemonic_ne_secondSpelling c row hrow⟩⟩

/-- Settles O43: NV's string is empty, and no accepted string is empty or a second spelling of NV. -/
theorem extensionMarkerHasNoMnemonic : Obligations.ExtensionMarkerHasNoMnemonic := ⟨rfl, fromMnemonic_ne_nv⟩

/-- Settles O44: an accepted string is its condition's own mnemonic, which is no second spelling, or one of the two. -/
theorem mnemonicRoundTrips : Obligations.MnemonicRoundTrips := by
  refine ⟨fun _ => fromMnemonic_toMnemonic, fromMnemonic_nil, fun text c h => ?_⟩
  obtain rfl | hsecond := fromMnemonic_ok_cases h
  · have hhs := toMnemonic_ne_secondSpelling c (.cs, [0x68, 0x73]) (by decide)
    have hlo := toMnemonic_ne_secondSpelling c (.cc, [0x6C, 0x6F]) (by decide)
    rw [if_neg hhs, if_neg hlo]
  · obtain ⟨rfl, rfl⟩ | ⟨rfl, rfl⟩ := (mem_secondSpellings_iff c text).mp hsecond <;> rfl

/-- Settles O45: the list is written out, and its element `k` is what `from_mask` gives for `k`. -/
theorem allListsConditionsInMaskOrder : Obligations.AllListsConditionsInMaskOrder :=
  ⟨rfl, rfl, by decide, fun k hk => ⟨_, allConds_getElem? k hk, fromMask_of_lt hk⟩⟩

end Sys2Proof
end

section
/-! PROOFS. What the error of a decode says of its word, and the rows' meanings with the word of each as a number
(41_decode.md R83 to R91). -/

namespace Sys2Proof

open Sys2Proof.Claims

/-! ### Words as numbers -/

theorem wordOf_eq_ofNat (hi lo : Byte) : wordOf hi lo = BitVec.ofNat 16 (256 * hi.toNat + lo.toNat) := by
  rw [← wordOf_toNat, BitVec.ofNat_toNat, BitVec.setWidth_eq]

theorem groupWordOf_eq_ofNat (g : Nibble) (low : BitVec 12) :
    groupWordOf g low = BitVec.ofNat 16 (4096 * g.toNat + low.toNat) := by
  rw [← groupWordOf_toNat, BitVec.ofNat_toNat, BitVec.setWidth_eq]

theorem subGroup_reserved_iff (w : Word) :
    isReservedSubGroup (subGroup w) = true ↔ w.toNat / 256 % 16 ∈ reservedSubs := by
  rw [isReservedSubGroup_iff, subGroup_toNat]

/-! ### Group `0b1101` gives a variant, and the other groups' errors name their level -/

/-- A mask below 14 is a branch on the condition it encodes (R87). -/
theorem decodesTo_condBranch_of_mask_lt {w : Word} (hg : group w = 13#4) (hmask : (subGroup w).toNat < 14) :
    DecodesTo w (.condBranch (condOfMask (subGroup w)) (sext8 (lowByte w))) := by
  have hsub := toMask_condOfMask (subGroup w)
  have hreal : (condOfMask (subGroup w)).isReal = true := by
    rwa [isReal_iff_toMask_lt, hsub]
  exact (decodesTo_condBranch_iff w _ _).mpr ⟨hg, hsub.symm, hreal, rfl⟩

/-- No mask is out of range, so every word of group `0b1101` gives a variant (R86). -/
theorem exists_decodesTo_of_cbSwi {w : Word} (hg : group w = 13#4) : ∃ v, DecodesTo w v := by
  have hmask : (subGroup w).toNat < 14 ∨ w.toNat / 256 % 16 = 14 ∨ w.toNat / 256 % 16 = 15 := by
    rw [subGroup_toNat]
    omega
  obtain hbranch | hal | hnv := hmask
  · exact ⟨_, decodesTo_condBranch_of_mask_lt hg hbranch⟩
  · exact ⟨_, (decodesTo_undefinedPermanent_iff w).mpr ⟨hg, (subGroup_eq_al_iff w).mpr hal⟩⟩
  · exact ⟨_, (decodesTo_softwareInterrupt_iff w _).mpr ⟨hg, (subGroup_eq_nv_iff w).mpr hnv, rfl⟩⟩

/-- The two ways a decode raises, each with the fields that lead to it (R84, R85). -/
theorem decode_raise_cases {w : Word} {e : Err} (h : decode w = .raise e) :
    (e = .unclassified .top w ∧ group w ≠ 11#4 ∧ group w ≠ 13#4) ∨
    (e = .unclassified .misc w ∧ group w = 11#4 ∧ isReservedSubGroup (subGroup w) = false) := by
  have h13 : group w ≠ 13#4 := by
    intro hg
    obtain ⟨v, hv⟩ := exists_decodesTo_of_cbSwi hg
    exact not_decodesTo_of_raise h v hv
  by_cases h11 : group w = 11#4
  · cases hsub : isReservedSubGroup (subGroup w) with
    | true => cases (decode_reserved h11 hsub).symm.trans h
    | false =>
      cases (decode_unclassified_misc h11 hsub).symm.trans h
      exact .inr ⟨rfl, h11, rfl⟩
  · cases (decode_unclassified_top h11 h13).symm.trans h
    exact .inl ⟨rfl, h11, h13⟩

theorem decode_eq_unclassified_top_iff (w x : Word) :
    decode w = .raise (.unclassified .top x) ↔ x = w ∧ group w ≠ 11#4 ∧ group w ≠ 13#4 := by
  constructor
  · intro h
    obtain ⟨he, hgroups⟩ | ⟨he, -⟩ := decode_raise_cases h
    · cases he
      exact ⟨rfl, hgroups⟩
    · cases he
  · rintro ⟨rfl, h11, h13⟩
    exact decode_unclassified_top h11 h13

theorem decode_eq_unclassified_misc_iff (w x : Word) :
    decode w = .raise (.unclassified .misc x) ↔
      x = w ∧ group w = 11#4 ∧ isReservedSubGroup (subGroup w) = false := by
  constructor
  · intro h
    obtain ⟨he, -⟩ | ⟨he, hfields⟩ := decode_raise_cases h
    · cases he
    · cases he
      exact ⟨rfl, hfields⟩
  · rintro ⟨rfl, h11, hsub⟩
    exact decode_unclassified_misc h11 hsub

end Sys2Proof

namespace Sys2Proof.Machine

open Sys2Proof.Claims

/-! ### A row's meaning, with its word as a number -/

variable {i : Instr} {s : State} {w : Word} {n : Nat}

theorem delivers_of_exec {v : Variant} {tag : BitVec 3} {cond : Nibble} {field : Byte}
    (hexec : exec i s = decodesTo w v s) (hw : w = BitVec.ofNat 16 n)
    (hports : decPorts w (.ok v) =
      { word := w, err := 0#1, errCode := 0#4, out := some { tag := tag, cond := cond, field := field } }) :
    Delivers i s n v.val tag cond field := by
  refine ⟨v, rfl, ?_⟩
  rw [hexec, decodesTo_eq, deliverDecode, hports, hw, receive]

theorem delivers_condBranch {c : Cond} {hc : c.isReal = true} {b : Byte}
    (hexec : exec i s = decodesTo w (mkCondBranch c hc b) s) (hw : w = BitVec.ofNat 16 n) :
    Delivers i s n (.condBranch c (signed b)) 0#3 (Sys2Proof.toMask c) b :=
  delivers_of_exec hexec hw (decPorts_mkCondBranch w c hc b)

theorem delivers_undefinedReserved (hexec : exec i s = decodesTo w mkUndefinedReserved s)
    (hw : w = BitVec.ofNat 16 n) : Delivers i s n .undefinedReserved 3#3 0#4 0#8 :=
  delivers_of_exec hexec hw (decPorts_mkUndefinedReserved w)

theorem raises_of_exec {level : Level} (hexec : exec i s = decodeRaises level w s) (hw : w = BitVec.ofNat 16 n) :
    Raises i s level n := by
  rw [Raises, hexec, decodeRaises_eq, deliverDecode, decPorts_unclassified, hw, receive]

end Sys2Proof.Machine
end

section
/-! PROOFS. The statements of 41_decode.md: the dispatcher in the word's number, and what each row delivers. -/

namespace Sys2Proof

open Sys2Proof.Claims Sys2Proof.Machine

/-- Settles O10: the three kinds of groups one by one, in `exec_decodeInstr`. -/
theorem execOfDecodedWordIsDispatcher : Obligations.ExecOfDecodedWordIsDispatcher := exec_decodeInstr

/-- Settles O11: each clause fixes the group and the sub-group, and with them what `decode` gives. -/
theorem decodeDispatchesOnFields : Obligations.DecodeDispatchesOnFields := by
  intro w
  simp only [Ne, ← group_eq_misc_iff, ← group_eq_cbSwi_iff, ← subGroup_reserved_iff, Bool.not_eq_true]
  refine ⟨fun hg hsub => (decodesTo_undefinedReserved_iff w).mpr ⟨hg, hsub⟩,
    fun hg hsub => decode_unclassified_misc hg hsub,
    fun hg hmask => (decodesTo_undefinedPermanent_iff w).mpr ⟨hg, (subGroup_eq_al_iff w).mpr hmask⟩,
    fun hg hmask => ?_, fun hg hmask => ?_, decode_unclassified_top⟩
  · refine (decodesTo_softwareInterrupt_iff w _).mpr ⟨hg, (subGroup_eq_nv_iff w).mpr hmask, ?_⟩
    rw [zext8, lowByte_toNat]
  · rw [← subGroup_toNat] at hmask ⊢
    rw [← lowByte_eq_ofNat, ← sext8_eq_signed]
    exact ⟨_, congrArg BitVec.toNat (toMask_condOfMask _), decodesTo_condBranch_of_mask_lt hg hmask⟩

/-- Settles O12: the error names its level and word, which leaves one of the two ways a decode raises. -/
theorem unclassifiedWordsRaise : Obligations.UnclassifiedWordsRaise := by
  intro w x
  simp only [Ne, ← group_eq_misc_iff, ← group_eq_cbSwi_iff, ← subGroup_reserved_iff, Bool.not_eq_true]
  exact ⟨decode_eq_unclassified_top_iff w x, decode_eq_unclassified_misc_iff w x, decodesTo_undefinedReserved_iff w⟩

/-- Settles O1: all fourteen rows are one lemma, with the row's own word and condition. -/
theorem condBranchRowsDeliver : Obligations.CondBranchRowsDeliver := by
  intro b s
  and_intros <;> exact delivers_condBranch rfl (wordOf_eq_ofNat _ b)

/-- Settles O2: the row's variant is the low byte as a natural number, which is also the field. -/
theorem softwareInterruptRowDelivers : Obligations.SoftwareInterruptRowDelivers :=
  fun b _ => delivers_of_exec rfl (wordOf_eq_ofNat 0xDF#8 b) (decPorts_mkSoftwareInterrupt _ b)

/-- Settles O3: the six reserved rows are one lemma; the permanently undefined row has its own variant. -/
theorem undefinedRowsDeliver : Obligations.UndefinedRowsDeliver := by
  intro b s
  refine ⟨delivers_of_exec rfl (wordOf_eq_ofNat 0xDE#8 b) (decPorts_mkUndefinedPermanent _), ?_⟩
  and_intros <;> exact delivers_undefinedReserved rfl (wordOf_eq_ofNat _ b)

/-- Settles O4: all fourteen groups are one lemma, with the group's own word. -/
theorem unclassifiedGroupRowsRaise : Obligations.UnclassifiedGroupRowsRaise := by
  intro x s
  and_intros <;> exact raises_of_exec rfl (groupWordOf_eq_ofNat _ x)

/-- Settles O5: all ten sub-groups are one lemma, with the sub-group's own word. -/
theorem unclassifiedSubGroupRowsRaise : Obligations.UnclassifiedSubGroupRowsRaise := by
  intro b s
  and_intros <;> exact raises_of_exec rfl (wordOf_eq_ofNat _ b)

end Sys2Proof
end

section
/-! PROOFS. What `encode` gives for every term: the refusal of an ill-formed one, and the word of a well-formed one with
the fields that make it decode back (42_encode.md R97 to R105). The canonical words stay arguments, as R99 has them. -/

namespace Sys2Proof

open Sys2Proof.Claims

/-! ### Well-formed terms (10_state.md R24, R25) -/

theorem isReal_iff_ne (c : Cond) : c.isReal = true ↔ c ≠ .al ∧ c ≠ .nv := by
  constructor
  · intro hreal
    constructor <;> rintro rfl <;> cases hreal
  · rintro ⟨ha, hn⟩
    exact isReal_of_ne ha hn

theorem wellFormed_condBranch_iff (c : Cond) (o : Int) :
    (VariantTerm.condBranch c o).wellFormed = true ↔ c.isReal = true ∧ -128 ≤ o ∧ o ≤ 127 := by
  simp [VariantTerm.wellFormed, and_assoc]

theorem wellFormed_softwareInterrupt_iff (i : Int) :
    (VariantTerm.softwareInterrupt i).wellFormed = true ↔ 0 ≤ i ∧ i ≤ 255 := by
  simp [VariantTerm.wellFormed]

/-- The terms that R104 lists are all that are not well formed. -/
theorem not_wellFormed_iff (v : VariantTerm) :
    ¬ v.wellFormed = true ↔
      (∃ c o, v = .condBranch c o ∧ (c = .al ∨ c = .nv ∨ o < -128 ∨ 127 < o)) ∨
        ∃ i, v = .softwareInterrupt i ∧ (i < 0 ∨ 255 < i) := by
  cases v with
  | condBranch c o =>
    rw [wellFormed_condBranch_iff, isReal_iff_ne]
    simp [and_assoc, imp_iff_not_or]
  | softwareInterrupt i =>
    rw [wellFormed_softwareInterrupt_iff]
    simp [imp_iff_not_or]
  | undefinedPermanent | undefinedReserved | unpredictable => simp [VariantTerm.wellFormed]

/-! ### The outcome of `encode` by the kind of term -/

variable {r p : Word}

/-- A term that is not well formed is refused, whatever the canonical words (R104). -/
theorem encodeWith_of_not_wellFormed {v : VariantTerm} (h : ¬ v.wellFormed = true) :
    encodeWith r p v = .raise (.illFormedVariant (.term v)) := by
  cases v with
  | condBranch c o =>
    rw [wellFormed_condBranch_iff, isReal_iff_toMask_lt] at h
    exact if_pos (by omega)
  | softwareInterrupt i =>
    rw [wellFormed_softwareInterrupt_iff] at h
    exact if_pos (by omega)
  | undefinedPermanent | undefinedReserved | unpredictable => exact absurd rfl h

theorem encode_of_not_wellFormed {v : VariantTerm} (h : ¬ v.wellFormed = true) :
    encode v = .raise (.illFormedVariant (.term v)) := encodeWith_of_not_wellFormed h

theorem encode_unpredictable : encode .unpredictable = .raise (.unencodable .unpredictable) := rfl

/-- A branch or an interrupt takes no part of its word from a canonical word. -/
theorem encodeWith_condBranch (c : Cond) (o : Int) :
    encodeWith r p (.condBranch c o) = encode (.condBranch c o) := rfl

theorem encodeWith_softwareInterrupt (i : Int) :
    encodeWith r p (.softwareInterrupt i) = encode (.softwareInterrupt i) := rfl

/-! ### The word of a well-formed term decodes to it -/

/-- The fields of a word of group `0b1101`, read off its number (30_encoding.md R54). -/
theorem fields_of_cbSwi_number {n : Nat} {m : Nibble} {b : Byte} (hn : n = 0xD000 + 256 * m.toNat + b.toNat) :
    group (BitVec.ofNat 16 n) = 13#4 ∧ subGroup (BitVec.ofNat 16 n) = m ∧ lowByte (BitVec.ofNat 16 n) = b := by
  have hm := m.isLt
  have hb := b.isLt
  rw [group_eq_cbSwi_iff, subGroup_eq_iff, ← BitVec.toNat_inj (y := b), lowByte_toNat, BitVec.toNat_ofNat]
  omega

/-- A branch in range comes back from its word: the offset's byte is `twos8`, which `sext8` undoes (R100, R105). -/
theorem encode_condBranch_decodesTo {c : Cond} {o : Int} (hc : c.isReal = true) (hlo : -128 ≤ o) (hhi : o ≤ 127) :
    ∃ w, encode (.condBranch c o) = .ok w ∧ DecodesTo w (.condBranch c o) := by
  refine ⟨_, encode_condBranch hc hlo hhi, ?_⟩
  have hbyte := twos8_toNat o
  obtain ⟨hg, hsub, hlow⟩ := fields_of_cbSwi_number (m := toMask c) (b := twos8 o)
    (n := 0xD000 + 256 * (toMask c).toNat + (o % 256).toNat) (by omega)
  rw [decodesTo_condBranch_iff, hlow, sext8_twos8 hlo hhi]
  exact ⟨hg, hsub, hc, rfl⟩

/-- An interrupt in range comes back from its word: the immediate is the low byte (R101, R105). -/
theorem encode_softwareInterrupt_decodesTo {i : Int} (hlo : 0 ≤ i) (hhi : i ≤ 255) :
    ∃ w, encode (.softwareInterrupt i) = .ok w ∧ DecodesTo w (.softwareInterrupt i) := by
  refine ⟨_, encode_softwareInterrupt hlo hhi, ?_⟩
  have hbyte := twos8_toNat i
  have hmask : (toMask .nv).toNat = 15 := rfl
  obtain ⟨hg, hsub, hlow⟩ := fields_of_cbSwi_number (m := toMask .nv) (b := twos8 i) (n := 0xDF00 + i.toNat) (by omega)
  rw [decodesTo_softwareInterrupt_iff, hlow, zext8]
  exact ⟨hg, hsub, by omega⟩

/-- Every well-formed term but `Unpredictable` has a word, and the word decodes to the term (R105), for all canonical words
of R99. -/
theorem encodeWith_decodesTo (hr : DecodesTo r .undefinedReserved) (hp : DecodesTo p .undefinedPermanent)
    {v : VariantTerm} (hwf : v.wellFormed = true) (hv : v ≠ .unpredictable) :
    ∃ w, encodeWith r p v = .ok w ∧ DecodesTo w v := by
  cases v with
  | condBranch c o =>
    obtain ⟨hc, hlo, hhi⟩ := (wellFormed_condBranch_iff c o).mp hwf
    rw [encodeWith_condBranch]
    exact encode_condBranch_decodesTo hc hlo hhi
  | softwareInterrupt i =>
    obtain ⟨hlo, hhi⟩ := (wellFormed_softwareInterrupt_iff i).mp hwf
    rw [encodeWith_softwareInterrupt]
    exact encode_softwareInterrupt_decodesTo hlo hhi
  | undefinedPermanent => exact ⟨p, rfl, hp⟩
  | undefinedReserved => exact ⟨r, rfl, hr⟩
  | unpredictable => exact absurd rfl hv

/-- The decided words meet R99, so `encode` needs no hypothesis on them (D4, D5). -/
theorem encode_decodesTo {v : VariantTerm} (hwf : v.wellFormed = true) (hv : v ≠ .unpredictable) :
    ∃ w, encode v = .ok w ∧ DecodesTo w v :=
  encodeWith_decodesTo ((decodesTo_undefinedReserved_iff _).mpr (by decide))
    ((decodesTo_undefinedPermanent_iff _).mpr (by decide)) hwf hv

/-- The three outcomes of `encode`, one for each kind of term (R97, R109). -/
theorem encode_cases (v : VariantTerm) :
    (¬ v.wellFormed = true ∧ encode v = .raise (.illFormedVariant (.term v))) ∨
    (v = .unpredictable ∧ encode v = .raise (.unencodable .unpredictable)) ∨
    (v.wellFormed = true ∧ v ≠ .unpredictable ∧ ∃ w, encode v = .ok w) := by
  by_cases hwf : v.wellFormed = true
  · by_cases hv : v = .unpredictable
    · subst hv
      exact .inr (.inl ⟨rfl, encode_unpredictable⟩)
    · obtain ⟨w, hw, -⟩ := encode_decodesTo hwf hv
      exact .inr (.inr ⟨hwf, hv, w, hw⟩)
  · exact .inl ⟨hwf, encode_of_not_wellFormed hwf⟩

theorem encode_eq_illFormedVariant_iff (v : VariantTerm) (x : EncInput) :
    encode v = .raise (.illFormedVariant x) ↔ x = .term v ∧ ¬ v.wellFormed = true := by
  constructor
  · intro h
    obtain ⟨hill, he⟩ | ⟨-, he⟩ | ⟨-, -, w, hw⟩ := encode_cases v
    · cases he.symm.trans h
      exact ⟨rfl, hill⟩
    · cases he.symm.trans h
    · cases hw.symm.trans h
  · rintro ⟨rfl, hill⟩
    exact encode_of_not_wellFormed hill

/-- A word that decodes to a variant's term gives that variant: its well-formedness is no second datum. -/
theorem decode_eq_ok_of_decodesTo {w : Word} {v : Variant} (h : DecodesTo w v.val) : decode w = .ok v := by
  obtain ⟨u, hu, hw⟩ := h
  rw [hw, Subtype.ext hu]

end Sys2Proof

namespace Sys2Proof.Machine

/-- The row without a word runs `encode` at the ports with the tag of its variant (R103, log entry 7). -/
theorem exec_unpredictable (s : State) :
    exec .unpredictable s = .next (opEncodePorts 4#3 s.enc.cond s.enc.field s) := rfl

end Sys2Proof.Machine
end

section
/-! PROOFS. The statements of 42_encode.md: the round trip, the words of a branch and an interrupt, and the refusals. -/

namespace Sys2Proof

open Sys2Proof.Claims Sys2Proof.Machine

/-- Settles O29: the word of a well-formed term decodes to the term, and a variant is its term. -/
theorem decodeEncodeRoundTrip : Obligations.DecodeEncodeRoundTrip := by
  constructor
  · intro r p hr hp v hv
    obtain ⟨w, hw, hdec⟩ := encodeWith_decodesTo hr hp v.property hv
    exact ⟨w, hw, decode_eq_ok_of_decodesTo hdec⟩
  · intro v hv
    obtain ⟨w, hw, hdec⟩ := encode_decodesTo v.property hv
    exact ⟨w, hw, decode_eq_ok_of_decodesTo hdec⟩

/-- Settles O24: a branch in range has the word of its mask and its offset's byte, and the others are not well formed. -/
theorem encodeBranchWord : Obligations.EncodeBranchWord := by
  intro c o
  split_ifs with h
  · obtain ⟨ha, hn, hlo, hhi⟩ := h
    exact encode_condBranch (isReal_of_ne ha hn) hlo hhi
  · rw [← and_assoc, ← isReal_iff_ne, ← wellFormed_condBranch_iff] at h
    exact encode_of_not_wellFormed h

/-- Settles O25: an interrupt in range has the word 0xDF00 and its immediate, and the others are not well formed. -/
theorem encodeInterruptWord : Obligations.EncodeInterruptWord := by
  intro i
  split_ifs with h
  · exact encode_softwareInterrupt h.left h.right
  · rw [← wellFormed_softwareInterrupt_iff] at h
    exact encode_of_not_wellFormed h

/-- Settles O27: the refusal names its own input, and the terms refused are those that are not well formed. -/
theorem illFormedInputsRefused : Obligations.IllFormedInputsRefused := by
  intro v x
  rw [encode_eq_illFormedVariant_iff, not_wellFormed_iff]

/-- Settles O6: the row runs `encode` at the ports with tag 4, whose outcome is the error `Unencodable`, with code 4. -/
theorem unpredictableRowRaisesUnencodable : Obligations.UnpredictableRowRaisesUnencodable := by
  intro s
  rw [exec_unpredictable, opEncodePorts, encodePorts_unpredictable rfl, deliverEncode, encPorts, errCode, receive]

end Sys2Proof
end

section
/-! PROOFS. What stops a step and what does not (60_exceptions.md R121, R122), how a caller loop runs along its stream, and
when a decode, a lookup of a string and an encode raise an error. -/

namespace Sys2Proof

open Sys2Proof.Claims

/-- `Unencodable` is the error of one term, and records that term (R116). -/
theorem encode_eq_unencodable_iff (v x : VariantTerm) :
    encode v = .raise (.unencodable x) ↔ v = .unpredictable ∧ x = .unpredictable := by
  constructor
  · intro h
    obtain ⟨-, he⟩ | ⟨hv, he⟩ | ⟨-, -, w, hw⟩ := encode_cases v
    · cases he.symm.trans h
    · cases he.symm.trans h
      exact ⟨hv, rfl⟩
    · cases hw.symm.trans h
  · rintro ⟨rfl, rfl⟩
    exact encode_unpredictable

/-- The strings with a row are the 15 non-empty canonical ones and the two second spellings (R76, R77). -/
theorem acceptedMnemonics_texts_perm :
    (acceptedMnemonics.map Prod.fst).Perm ((canonicalTable.take 15 ++ secondSpellings).map Prod.snd) := by decide

/-- A lookup raises its one error, which records the string, exactly where no row holds the string (R79, R118). -/
theorem fromMnemonic_eq_raise_iff (text : List Byte) (e : Err) :
    fromMnemonic text = .raise e ↔ e = .unrecognizedMnemonic text ∧ text ∉ acceptedMnemonics.map Prod.fst := by
  obtain ⟨c, hmem, hok⟩ | hraise := fromMnemonic_cases text
  · have hrow : text ∈ acceptedMnemonics.map Prod.fst := List.mem_map_of_mem hmem
    simp [hok, hrow]
  · have hrow : text ∉ acceptedMnemonics.map Prod.fst := by
      intro h
      obtain ⟨row, hmem, rfl⟩ := List.mem_map.mp h
      cases hraise.symm.trans (fromMnemonic_of_mem row hmem)
    simp [hraise, hrow, eq_comm]

theorem wordOfBytes_eq_ofNat (b0 b1 : Byte) : wordOfBytes b0 b1 = BitVec.ofNat 16 (b0.toNat + 256 * b1.toNat) := by
  rw [wordOfBytes_eq, wordOf_eq_ofNat, Nat.add_comm]

end Sys2Proof

namespace Sys2Proof.Machine

open Sys2Proof.Claims

/-- `dec_err` is 0 beside every variant, the undefined ones among them (R114). -/
theorem deliverDecode_err_of_decodesTo {w : Word} {v : VariantTerm} (h : DecodesTo w v) (s : State) :
    (deliverDecode w (decode w) s).dec.err = 0#1 := by
  obtain ⟨u, -, hu⟩ := h
  exact (decPorts_err w (decode w)).left.mpr ⟨u, hu⟩

/-- The two things a step can do: answer a next state, or stop at an unclassified stream halfword with its fault. -/
theorem step_cases (s : State) :
    (∃ t, step s = .next t) ∨
    ∃ b0 b1 rest level w, s.pending = .stream b0 b1 :: rest ∧
      decode (wordOfBytes b0 b1) = .raise (.unclassified level w) ∧ step s = .fault (.unclassified level w) := by
  cases hp : s.pending with
  | nil => exact .inl ⟨s, step_idle hp⟩
  | cons r rest =>
    have hs := with_pending_eq_self hp
    cases hr : r.isStream with
    | false => exact .inl ⟨_, hs ▸ step_eq_perform s rest hr⟩
    | true =>
      cases r with
      | stream b0 b1 =>
        cases hd : decode (wordOfBytes b0 b1) with
        | ok v => exact .inl ⟨_, hs ▸ step_stream_of_ok s rest hd⟩
        | raise e =>
          obtain ⟨level, rfl⟩ := eq_unclassified_of_decode_raise hd
          exact .inr ⟨b0, b1, rest, level, _, rfl, hd, hs ▸ step_stream_of_unclassified s rest hd⟩
      | _ => cases hr

theorem step_eq_fault_iff (s : State) (level : Level) (w : Word) :
    step s = .fault (.unclassified level w) ↔
      ∃ b0 b1 rest, s.pending = .stream b0 b1 :: rest ∧ decode (wordOfBytes b0 b1) = .raise (.unclassified level w) := by
  constructor
  · intro h
    obtain ⟨t, ht⟩ | ⟨b0, b1, rest, level', w', hp, hd, hfault⟩ := step_cases s
    · cases ht.symm.trans h
    · cases hfault.symm.trans h
      exact ⟨b0, b1, rest, hp, hd⟩
  · rintro ⟨b0, b1, rest, hp, hd⟩
    exact with_pending_eq_self hp ▸ step_stream_of_unclassified s rest hd

/-- A caller loop along halfwords that all give variants comes to a state from which any longer run goes on: their outcomes
are received, and what stood after them is still to come. -/
theorem run_stream_of_ok (s : State) (pre : List (Byte × Byte)) (rest : List Request)
    (hpre : ∀ p ∈ pre, ∃ v, decode (wordOfBytes p.1 p.2) = .ok v) :
    ∃ t : State, t.pending = rest ∧
      t.outcomes = s.outcomes ++ pre.map (fun p => .decoded (decode (wordOfBytes p.1 p.2))) ∧
      ∀ k, Sys2Proof.core.run (pre.length + k)
        { s with pending := pre.map (fun p => .stream p.1 p.2) ++ rest } = Sys2Proof.core.run k t := by
  induction pre generalizing s with
  | nil =>
    refine ⟨{ s with pending := rest }, rfl, (List.append_nil _).symm, fun k => ?_⟩
    rw [List.length_nil, Nat.zero_add, List.map_nil, List.nil_append]
  | cons p pre ih =>
    obtain ⟨⟨v, hv⟩, hpre⟩ := List.forall_mem_cons.mp hpre
    have hstep := step_stream_of_ok s (pre.map (fun p => .stream p.1 p.2) ++ rest) hv
    obtain ⟨t, hpending, houtcomes, hrun⟩ := ih (perform (.stream p.1 p.2)
      { s with pending := pre.map (fun p => .stream p.1 p.2) ++ rest }) hpre
    rw [with_pending_eq_self (perform_pending _ _)] at hrun
    refine ⟨t, hpending, ?_, fun k => ?_⟩
    · rw [houtcomes, perform_outcomes, List.append_assoc]
      rfl
    · rw [List.length_cons, Nat.succ_add]
      exact (run_of_next hstep _).trans (hrun k)

end Sys2Proof.Machine
end

section
/-! PROOFS. The statements of 60_exceptions.md: which operation raises which error, and what an error stops. -/

namespace Sys2Proof

open Sys2Proof.Claims Sys2Proof.Machine

/-- Settles O21: `exec` delivers what the word decodes to, a plain decode is never stopped, and beside any variant `dec_err`
is 0. -/
theorem undefinedWordsAreResults : Obligations.UndefinedWordsAreResults := by
  intro w v s rest _ hdec
  exact ⟨⟨_, exec_decodeInstr w s, deliverDecode_err_of_decodesTo hdec s⟩,
    _, step_eq_perform s rest rfl, deliverDecode_err_of_decodesTo hdec _⟩

/-- Settles O28: of the three kinds of terms, only `Unpredictable` raises `Unencodable`. -/
theorem unencodableOnlyForUnpredictable : Obligations.UnencodableOnlyForUnpredictable := encode_eq_unencodable_iff

/-- Settles O41: the error records the string, and the 17 strings are those with a row. -/
theorem unrecognizedMnemonicExactly : Obligations.UnrecognizedMnemonicExactly := by
  intro text
  refine ⟨fun x => ?_, fun e h => ((fromMnemonic_eq_raise_iff text e).mp h).left⟩
  rw [fromMnemonic_eq_raise_iff, acceptedMnemonics_texts_perm.mem_iff, Err.unrecognizedMnemonic.injEq]

/-- Settles O51: after the halfwords that decode, the loop's next step is at the unclassified one, and a longer run is its
fault. -/
theorem streamLoopStopsAtFirstUnclassified : Obligations.StreamLoopStopsAtFirstUnclassified := by
  intro s pre b0 b1 rest hpre
  simp only [← wordOfBytes_eq_ofNat] at hpre ⊢
  refine ⟨?_, fun level w hw k hk => ?_⟩
  · obtain ⟨t, hpending, houtcomes, hrun⟩ := run_stream_of_ok s pre rest hpre
    exact ⟨t, hrun 0, hpending, houtcomes⟩
  · obtain ⟨t, hpending, -, hrun⟩ := run_stream_of_ok s pre (.stream b0 b1 :: rest) hpre
    obtain ⟨j, rfl⟩ := Nat.exists_eq_add_of_lt hk
    exact (hrun (j + 1)).trans (run_of_fault ((step_eq_fault_iff t level w).mpr ⟨b0, b1, rest, hpending, hw⟩) j)

/-- Settles O52: of the two things a step can do neither is a refusal, and one is the fault of an unclassified halfword. -/
theorem stepsStopOnlyAtUnclassifiedStreamWords : Obligations.StepsStopOnlyAtUnclassifiedStreamWords := by
  intro s
  simp only [← wordOfBytes_eq_ofNat]
  refine ⟨fun x hx => ?_, step_eq_fault_iff s⟩
  obtain ⟨t, ht⟩ | ⟨_, _, _, _, _, -, -, hfault⟩ := step_cases s
  · cases ht.symm.trans hx
  · cases hfault.symm.trans hx

/-- Settles O7: the two bytes of a halfword decode to the instruction of their word, and with nothing presented a step is
idle. -/
theorem stepRunsDecodedInstruction : Obligations.StepRunsDecodedInstruction := by
  refine fun s rest => ⟨fun w => step_decode w rest s, fun b0 b1 i h => ?_, step_idle rfl⟩
  cases h
  exact step_stream b0 b1 rest s

/-- Settles O47: the table of R113 is the definition of `errCode`, row by row. -/
theorem errorCodes : Obligations.ErrorCodes :=
  ⟨fun _ => rfl, fun _ => rfl, fun _ _ => rfl, fun _ => rfl, fun _ => rfl⟩

end Sys2Proof
end

section
/-! PROOFS. A row's word decodes back to the row, so the meaning of every instruction performs an operation at the ports:
the decode of its word, or for the row without a word the encode of its variant. -/

namespace Sys2Proof

theorem decodeInstr_of_encodeInstr {i : Instr} {w : Word} (h : encodeInstr i = some w) : decodeInstr w = i := by
  cases i with
  | unpredictable => cases h
  | condBranchEQ b | condBranchNE b | condBranchCS b | condBranchCC b | condBranchMI b | condBranchPL b
  | condBranchVS b | condBranchVC b | condBranchHI b | condBranchLS b | condBranchGE b | condBranchLT b
  | condBranchGT b | condBranchLE b | undefinedPermanent b | softwareInterrupt b =>
    cases h
    exact decodeInstr_cbSwi _ b rfl
  | undefinedReserved0001 b | undefinedReserved0011 b | undefinedReserved0111 b | undefinedReserved1000 b
  | undefinedReserved1001 b | undefinedReserved1011 b | unclassifiedMisc0000 b | unclassifiedMisc0010 b
  | unclassifiedMisc0100 b | unclassifiedMisc0101 b | unclassifiedMisc0110 b | unclassifiedMisc1010 b
  | unclassifiedMisc1100 b | unclassifiedMisc1101 b | unclassifiedMisc1110 b | unclassifiedMisc1111 b =>
    cases h
    exact decodeInstr_misc _ b rfl
  | unclassifiedGroup0000 | unclassifiedGroup0001 | unclassifiedGroup0010 | unclassifiedGroup0011
  | unclassifiedGroup0100 | unclassifiedGroup0101 | unclassifiedGroup0110 | unclassifiedGroup0111
  | unclassifiedGroup1000 | unclassifiedGroup1001 | unclassifiedGroup1010 | unclassifiedGroup1100
  | unclassifiedGroup1110 | unclassifiedGroup1111 =>
    cases h
    simp [decodeInstr]

theorem eq_unpredictable_of_encodeInstr_eq_none {i : Instr} (h : encodeInstr i = none) : i = .unpredictable := by
  cases i with
  | unpredictable => rfl
  | _ => cases h

end Sys2Proof

namespace Sys2Proof.Machine

/-- The meaning of an instruction with a word is the decode of the word, performed (log entry 22). -/
theorem exec_of_encodeInstr {i : Instr} {w : Word} (h : encodeInstr i = some w) (s : State) :
    exec i s = .next (perform (.decode w) s) := by
  rw [← decodeInstr_of_encodeInstr h, exec_decodeInstr, perform]

/-- Whatever an instruction does is one operation at the ports, performed. -/
theorem exists_exec_eq_perform (i : Instr) (s : State) : ∃ r, exec i s = .next (perform r s) := by
  cases h : encodeInstr i with
  | some w => exact ⟨.decode w, exec_of_encodeInstr h s⟩
  | none =>
    cases eq_unpredictable_of_encodeInstr_eq_none h
    exact ⟨.encodePorts 4#3 s.enc.cond s.enc.field, exec_unpredictable s⟩

end Sys2Proof.Machine
end

section
/-! PROOFS. The statement of 70_reset_and_hazards.md on the ports (R135): an operation drives one unit's outputs with that
unit's function of the inputs it presents, and leaves the other units' wires as they are. -/

namespace Sys2Proof.Machine

theorem perform_combinational (r : Request) {s : State} (h : Combinational s) : Combinational (perform r s) := by
  obtain ⟨hdec, henc, hfm, htoMask, htm, hfn, hall⟩ := h
  cases r with
  | decode | stream => exact ⟨by simp [perform], henc, hfm, htoMask, htm, hfn, hall⟩
  | encodePorts => exact ⟨hdec, by simp [perform], hfm, htoMask, htm, hfn, hall⟩
  | fromMask => exact ⟨hdec, henc, by simp [perform], htoMask, htm, hfn, hall⟩
  | toMask => exact ⟨hdec, henc, hfm, by simp [perform], htm, hfn, hall⟩
  | toMnemonic => exact ⟨hdec, henc, hfm, htoMask, by simp [perform], hfn, hall⟩
  | fromMnemonic => exact ⟨hdec, henc, hfm, htoMask, htm, by simp [perform], hall⟩
  | allAt => exact ⟨hdec, henc, hfm, htoMask, htm, hfn, by simp [perform]⟩
  | encode | all => exact ⟨hdec, henc, hfm, htoMask, htm, hfn, hall⟩

theorem step_combinational {s t : State} (hs : Combinational s) (h : step s = .next t) : Combinational t := by
  cases hp : s.pending with
  | nil =>
    cases (step_idle hp).symm.trans h
    exact hs
  | cons r rest =>
    rw [← with_pending_eq_self hp] at h
    rw [eq_perform_of_step s rest h]
    exact perform_combinational r hs

theorem exec_combinational {i : Instr} {s t : State} (hs : Combinational s) (h : exec i s = .next t) :
    Combinational t := by
  obtain ⟨r, hr⟩ := exists_exec_eq_perform i s
  cases hr.symm.trans h
  exact perform_combinational r hs

/-- Settles O53: a step and an instruction's meaning, where they answer a next state other than the state itself, both
perform an operation, which keeps the ports combinational. -/
theorem portsStayCombinational : Obligations.PortsStayCombinational :=
  fun _ _ hs => ⟨step_combinational hs, fun _ => exec_combinational hs⟩

end Sys2Proof.Machine
end

section
/-! PROOFS. Every instruction but `Unpredictable` has a word, and every word is the word of its row (30_encoding.md R58,
R59, R63). -/

namespace Sys2Proof

theorem wellFormed_iff_ne_unpredictable (i : Instr) : i.wellFormed = true ↔ i ≠ .unpredictable := by
  cases i with
  | unpredictable => decide
  | _ => exact iff_of_true rfl nofun

theorem exists_encodeInstr_iff (i : Instr) : (∃ w, encodeInstr i = some w) ↔ i ≠ .unpredictable := by
  constructor
  · rintro ⟨w, hw⟩ rfl
    cases hw
  · intro hi
    exact Option.ne_none_iff_exists'.mp (mt eq_unpredictable_of_encodeInstr_eq_none hi)

/-! ### The word of a word's row, by the group -/

theorem encodeInstr_decodeMiscRow (sub : Nibble) (low : Byte) :
    encodeInstr (decodeMiscRow sub low) = some (wordOf (fieldsByte 11#4 sub) low) := by
  obtain ⟨c, rfl⟩ := exists_toMask_eq sub
  cases c <;> rfl

theorem encodeInstr_decodeCbSwiRow (mask : Nibble) (low : Byte) :
    encodeInstr (decodeCbSwiRow mask low) = some (wordOf (fieldsByte 13#4 mask) low) := by
  obtain ⟨c, rfl⟩ := exists_toMask_eq mask
  cases c <;> rfl

theorem encodeInstr_decodeInstr_of_unclassified_group {w : Word} (h11 : group w ≠ 11#4) (h13 : group w ≠ 13#4) :
    encodeInstr (decodeInstr w) = some (groupWordOf (group w) (lowTwelve w)) := by
  obtain ⟨c, hg⟩ := exists_toMask_eq (group w)
  rw [decodeInstr]
  generalize lowTwelve w = low
  rw [← hg] at h11 h13 ⊢
  cases c with
  | lt => exact absurd rfl h11
  | le => exact absurd rfl h13
  | eq | ne | cs | cc | mi | pl | vs | vc | hi | ls | ge | gt | al | nv => rfl

/-- The row of a word keeps the whole word: the fixed bits are the row's, the others its operand (log entry 6). -/
theorem encodeInstr_decodeInstr (w : Word) : encodeInstr (decodeInstr w) = some w := by
  by_cases h11 : group w = 11#4
  · rw [decodeInstr_of_misc h11, encodeInstr_decodeMiscRow, ← h11, wordOf_fieldsByte_lowByte]
  by_cases h13 : group w = 13#4
  · rw [decodeInstr_of_cbSwi h13, encodeInstr_decodeCbSwiRow, ← h13, wordOf_fieldsByte_lowByte]
  rw [encodeInstr_decodeInstr_of_unclassified_group h11 h13, groupWordOf_group_lowTwelve]

/-- Settles O35: an instruction with a word is any but `Unpredictable`, and each of the two maps undoes the other. -/
theorem instructionWordRoundTrip : Obligations.InstructionWordRoundTrip := by
  refine ⟨fun i => ⟨?_, fun w => decodeInstr_of_encodeInstr⟩, fun w => ⟨?_, encodeInstr_decodeInstr w⟩⟩
  · rw [wellFormed_iff_ne_unpredictable, exists_encodeInstr_iff]
  · exact (wellFormed_iff_ne_unpredictable _).mpr (decodeInstr_ne_unpredictable w)

end Sys2Proof
end

section
/-! PROOFS. Which words and variants determine each other: a word decodes to one term, a branch or an interrupt is decoded
from one word, and the word `encode` gives for a term decodes to the term (41_decode.md R95, 42_encode.md R105). -/

namespace Sys2Proof

open Sys2Proof.Claims

theorem decode_ne_unpredictable {w : Word} {v : Variant} (h : decode w = .ok v) : v.val ≠ .unpredictable := by
  intro hv
  exact not_decodesTo_unpredictable w (hv ▸ decodesTo_of_ok h)

theorem decodesTo_unique {w : Word} {u v : VariantTerm} (hu : DecodesTo w u) (hv : DecodesTo w v) : u = v := by
  obtain ⟨x, rfl, hx⟩ := hu
  exact ((decodesTo_iff_of_ok hx v).mp hv).symm

/-! ### The word of a branch or an interrupt -/

theorem eq_of_fields {w w' : Word} (hg : group w = group w') (hsub : subGroup w = subGroup w')
    (hlow : lowByte w = lowByte w') : w = w' := by
  rw [← wordOf_fieldsByte_lowByte w, hg, hsub, hlow, wordOf_fieldsByte_lowByte]

theorem sext8_injective : Function.Injective sext8 := Function.LeftInverse.injective twos8_sext8

theorem zext8_injective : Function.Injective zext8 := fun _ _ h => BitVec.eq_of_toNat_eq (Int.ofNat.inj h)

theorem eq_of_decodesTo_condBranch {w w' : Word} {c : Cond} {o : Int} (h : DecodesTo w (.condBranch c o))
    (h' : DecodesTo w' (.condBranch c o)) : w = w' := by
  obtain ⟨hg, hsub, -, ho⟩ := (decodesTo_condBranch_iff w c o).mp h
  obtain ⟨hg', hsub', -, ho'⟩ := (decodesTo_condBranch_iff w' c o).mp h'
  exact eq_of_fields (hg.trans hg'.symm) (hsub.trans hsub'.symm) (sext8_injective (ho.symm.trans ho'))

theorem eq_of_decodesTo_softwareInterrupt {w w' : Word} {i : Int} (h : DecodesTo w (.softwareInterrupt i))
    (h' : DecodesTo w' (.softwareInterrupt i)) : w = w' := by
  obtain ⟨hg, hsub, hi⟩ := (decodesTo_softwareInterrupt_iff w i).mp h
  obtain ⟨hg', hsub', hi'⟩ := (decodesTo_softwareInterrupt_iff w' i).mp h'
  exact eq_of_fields (hg.trans hg'.symm) (hsub.trans hsub'.symm) (zext8_injective (hi.symm.trans hi'))

/-- The variants that hold every bit of their word (R95): the other two forget the bits the decoder does not inspect. -/
theorem eq_of_decodesTo {w w' : Word} {v : VariantTerm} (h : DecodesTo w v) (h' : DecodesTo w' v)
    (hr : v ≠ .undefinedReserved) (hp : v ≠ .undefinedPermanent) : w = w' := by
  cases v with
  | condBranch c o => exact eq_of_decodesTo_condBranch h h'
  | softwareInterrupt i => exact eq_of_decodesTo_softwareInterrupt h h'
  | undefinedPermanent => exact absurd rfl hp
  | undefinedReserved => exact absurd rfl hr
  | unpredictable => exact absurd h (not_decodesTo_unpredictable w)

/-! ### The word `encode` gives -/

/-- Whatever word `encode` gives decodes to its argument (R105). -/
theorem decodesTo_of_encode {v : VariantTerm} {w : Word} (h : encode v = .ok w) : DecodesTo w v := by
  obtain ⟨-, he⟩ | ⟨-, he⟩ | ⟨hwf, hv, -⟩ := encode_cases v
  · cases he.symm.trans h
  · cases he.symm.trans h
  · obtain ⟨w', hw', hdec⟩ := encode_decodesTo hwf hv
    cases hw'.symm.trans h
    exact hdec

/-- Only the two collapsed variants have a word that is an argument (R99). -/
theorem encodeWith_eq_encode {r p : Word} {v : VariantTerm} (hr : v ≠ .undefinedReserved)
    (hp : v ≠ .undefinedPermanent) : encodeWith r p v = encode v := by
  cases v with
  | condBranch | softwareInterrupt | unpredictable => rfl
  | undefinedPermanent => exact absurd rfl hp
  | undefinedReserved => exact absurd rfl hr

/-- Encoding a decoded variant gives a canonical word or the word itself (R108). -/
theorem encodeWith_of_decode (r p : Word) {w : Word} {v : Variant} (h : decode w = .ok v) :
    encodeWith r p v.val =
      .ok (if v.val = .undefinedReserved then r else if v.val = .undefinedPermanent then p else w) := by
  split_ifs with hr hp
  · rw [hr, encodeWith]
  · rw [hp, encodeWith]
  · obtain ⟨w', hw', hdec⟩ := encode_decodesTo v.property (decode_ne_unpredictable h)
    rw [encodeWith_eq_encode hr hp, hw', eq_of_decodesTo (decodesTo_of_ok h) hdec hr hp]

/-- A decoded variant that is not collapsed comes back to its word (R106). -/
theorem exists_encode_of_decodesTo {w : Word} {v : VariantTerm} (h : DecodesTo w v) (hr : v ≠ .undefinedReserved)
    (hp : v ≠ .undefinedPermanent) : ∃ u : Variant, decode w = .ok u ∧ encode u.val = .ok w := by
  obtain ⟨u, rfl, hu⟩ := h
  refine ⟨u, hu, ?_⟩
  rw [encode, encodeWith_of_decode _ _ hu, if_neg hr, if_neg hp]

end Sys2Proof
end

section
/-! PROOFS. The statements of 41_decode.md section 3 and 42_encode.md section 3 on words and variants. -/

namespace Sys2Proof

open Sys2Proof.Claims

/-- Settles O16: the outcome is a variant, which no word gives `Unpredictable`, or the one error of the decoder. -/
theorem decodeTotalOneErrorKind : Obligations.DecodeTotalOneErrorKind := by
  intro w
  cases h : decode w with
  | ok v => exact .inl ⟨v, decode_ne_unpredictable h, rfl⟩
  | raise e =>
    obtain ⟨level, rfl⟩ := eq_unclassified_of_decode_raise h
    exact .inr ⟨level, rfl⟩

/-- Settles O17: the word `encode` gives decodes to the variant, and a branch or an interrupt has no other. -/
theorem branchAndInterruptWordsDetermined : Obligations.BranchAndInterruptWordsDetermined := by
  intro v hv
  have hne : v.val ≠ .unpredictable ∧ v.val ≠ .undefinedReserved ∧ v.val ≠ .undefinedPermanent := by
    obtain ⟨c, o, hv⟩ | ⟨i, hv⟩ := hv <;> simp [hv]
  obtain ⟨hu, hr, hp⟩ := hne
  obtain ⟨w, -, hdec⟩ := encode_decodesTo v.property hu
  exact ⟨w, decode_eq_ok_of_decodesTo hdec, fun w' h => eq_of_decodesTo (decodesTo_of_ok h) hdec hr hp⟩

/-- Settles O31: the two collapsed variants have the canonical words, and the others the one word they are decoded from. -/
theorem collapsedWordsBecomeCanonical : Obligations.CollapsedWordsBecomeCanonical :=
  fun r p _ _ h => encodeWith_of_decode r p h

/-- Settles O30: a branch or an interrupt word comes back as it is, and of a collapsed space only the canonical word. -/
theorem encodeOfDecodeFixesExactlyTheseWords : Obligations.EncodeOfDecodeFixesExactlyTheseWords := by
  intro w
  constructor
  · rintro ⟨v, hdec, henc⟩
    have hback := (encodeWith_of_decode _ _ hdec).symm.trans henc
    obtain ⟨-, -, hv⟩ | ⟨-, -, hv⟩ | ⟨hg, hsub, -⟩ | ⟨c, hg, hsub, hreal, -⟩ := decodesTo_cases (decodesTo_of_ok hdec)
    · rw [if_pos hv] at hback
      cases hback
      decide
    · rw [if_neg (by simp [hv]), if_pos hv] at hback
      cases hback
      decide
    · rw [group_eq_cbSwi_iff] at hg
      rw [subGroup_eq_nv_iff] at hsub
      omega
    · rw [group_eq_cbSwi_iff] at hg
      rw [subGroup_eq_iff] at hsub
      rw [isReal_iff_toMask_lt] at hreal
      omega
  · rintro (hbranch | hinterrupt | hpermanent | hreserved)
    · have hg : group w = 13#4 := (group_eq_cbSwi_iff w).mpr (by omega)
      have hmask : (subGroup w).toNat < 14 := by
        rw [subGroup_toNat]
        omega
      exact exists_encode_of_decodesTo (decodesTo_condBranch_of_mask_lt hg hmask) nofun nofun
    · have hg : group w = 13#4 := (group_eq_cbSwi_iff w).mpr (by omega)
      have hsub : subGroup w = toMask .nv := (subGroup_eq_nv_iff w).mpr (by omega)
      exact exists_encode_of_decodesTo ((decodesTo_softwareInterrupt_iff w _).mpr ⟨hg, hsub, rfl⟩) nofun nofun
    · cases BitVec.eq_of_toNat_eq (y := 0xDE00#16) hpermanent
      exact ⟨mkUndefinedPermanent, decode_permanent rfl rfl, rfl⟩
    · cases BitVec.eq_of_toNat_eq (y := 0xB100#16) hreserved
      exact ⟨mkUndefinedReserved, decode_reserved rfl rfl, rfl⟩

/-- Settles O32: both terms are what the word decodes to. -/
theorem encodeInjective : Obligations.EncodeInjective :=
  fun _ _ _ hu hv => decodesTo_unique (decodesTo_of_encode hu) (decodesTo_of_encode hv)

/-- Settles O33: the word decodes to the term, and a word that decodes lies in group 13 or in a reserved sub-group. -/
theorem encodedWordsAreClassified : Obligations.EncodedWordsAreClassified := by
  intro v w h
  obtain ⟨u, rfl, hu⟩ := decodesTo_of_encode h
  refine ⟨?_, u, hu⟩
  rw [← group_eq_cbSwi_iff, ← group_eq_misc_iff, ← subGroup_reserved_iff]
  obtain ⟨hg, hsub, -⟩ | ⟨hg, -⟩ | ⟨hg, -⟩ | ⟨-, hg, -⟩ := decodesTo_cases (decodesTo_of_ok hu)
  · exact .inr ⟨hg, hsub⟩
  · exact .inl hg
  · exact .inl hg
  · exact .inl hg

end Sys2Proof
end

section
/-! PROOFS. The outcomes an operation may give (60_exceptions.md R113): every operation's own outcome is one of them, for any
inputs, so what a step adds to the outcomes received never leaves them. -/

namespace Sys2Proof.Machine

theorem decode_permitted (w : Word) : (Response.decoded (decode w)).Permitted := by
  cases h : decode w with
  | ok v => exact decode_ne_unpredictable h
  | raise e =>
    obtain ⟨level, he⟩ := eq_unclassified_of_decode_raise h
    exact ⟨level, w, he⟩

theorem encode_permitted (v : VariantTerm) : (Response.encoded (encode v)).Permitted := by
  obtain ⟨-, he⟩ | ⟨-, he⟩ | ⟨-, -, w, hw⟩ := encode_cases v
  · rw [he]
    exact .inr ⟨.term v, rfl⟩
  · rw [he]
    exact .inl rfl
  · obtain ⟨u, -, hu⟩ := decodesTo_of_encode hw
    rw [hw]
    exact ⟨u, hu⟩

/-- A used tag makes the ports hold a term, which is then encoded; an unused one is refused (R119, R120). -/
theorem encodePorts_cases (tag : BitVec 3) (cond : Nibble) (field : Byte) :
    (∃ v, encodePorts tag cond field = encode v) ∨
      encodePorts tag cond field = .raise (.illFormedVariant (.ports tag cond field)) := by
  unfold encodePorts
  split
  case h_6 => exact .inr rfl
  all_goals exact .inl ⟨_, rfl⟩

theorem encodePorts_permitted (tag : BitVec 3) (cond : Nibble) (field : Byte) :
    (Response.encoded (encodePorts tag cond field)).Permitted := by
  obtain ⟨v, hv⟩ | hill := encodePorts_cases tag cond field
  · rw [hv]
    exact encode_permitted v
  · rw [hill]
    exact .inr ⟨.ports tag cond field, rfl⟩

theorem fromMask_permitted (m : Nat) : (Response.fromMask (fromMask m)).Permitted := by
  rcases lt_or_ge m 16 with hlt | hge
  · rw [fromMask_of_lt hlt]
    trivial
  · rw [fromMask_of_ge hge]
    exact ⟨m, hge, rfl⟩

theorem fromMnemonic_permitted (text : List Byte) : (Response.fromMnemonic (fromMnemonic text)).Permitted := by
  cases h : fromMnemonic text with
  | ok c => exact fun hc => fromMnemonic_ne_nv text (hc ▸ h)
  | raise e =>
    obtain ⟨he, -⟩ := (fromMnemonic_eq_raise_iff text e).mp h
    exact ⟨text, he⟩

theorem toMnemonic_permitted (c : Cond) : (Response.toMnemonic (toMnemonic c)).Permitted := by
  cases c with
  | nv => exact .inl rfl
  | _ => exact .inr rfl

theorem respond_permitted (r : Request) : (respond r).Permitted := by
  cases r with
  | decode w => exact decode_permitted w
  | stream b0 b1 => exact decode_permitted (wordOfBytes b0 b1)
  | encodePorts tag cond field => exact encodePorts_permitted tag cond field
  | encode v => exact encode_permitted v
  | fromMask m => exact fromMask_permitted m
  | fromMnemonic text => exact fromMnemonic_permitted text
  | toMnemonic c => exact toMnemonic_permitted c
  | toMask | allAt => trivial
  | all => rfl

theorem perform_outcomesPermitted (r : Request) {s : State} (h : OutcomesPermitted s) :
    OutcomesPermitted (perform r s) := by
  intro x hx
  rw [perform_outcomes, List.mem_append, List.mem_singleton] at hx
  obtain hold | rfl := hx
  · exact h x hold
  · exact respond_permitted r

/-- A step that answers a next state has performed the operation it took, or had none to take. -/
theorem step_next_cases {s t : State} (h : step s = .next t) :
    t = s ∨ ∃ r rest, t = perform r { s with pending := rest } := by
  cases hp : s.pending with
  | nil => exact .inl (Host.Outcome.next.inj ((step_idle hp).symm.trans h)).symm
  | cons r rest => exact .inr ⟨r, rest, eq_perform_of_step s rest ((with_pending_eq_self hp).symm ▸ h)⟩

/-- Settles O55: a step and an instruction's meaning add at most one operation's own outcome, which is permitted. -/
theorem outcomesStayPermitted : Obligations.OutcomesStayPermitted := by
  refine fun s t hs => ⟨fun h => ?_, fun i h => ?_⟩
  · obtain rfl | ⟨r, rest, rfl⟩ := step_next_cases h
    · exact hs
    · exact perform_outcomesPermitted r hs
  · obtain ⟨r, hr⟩ := exists_exec_eq_perform i s
    cases hr.symm.trans h
    exact perform_outcomesPermitted r hs

/-- Settles O56: nothing has been received at reset. -/
theorem resetOutcomesPermitted : Obligations.ResetOutcomesPermitted := List.forall_mem_nil _

end Sys2Proof.Machine
end

section
/-! PROOFS. The opcode table (30_encoding.md R58, R59): a word lies in the row with its own fixed bits, and no two rows share
a word, since any two differ in a bit that both fix. -/

namespace Sys2Proof

/-! ### The row of a word -/

/-- The bits that a row of the group fixes: only the two classified groups look below `w[15:12]` (R51 to R54). -/
def groupMask (g : Nibble) : Word := if g = 11#4 ∨ g = 13#4 then 0xFF00#16 else 0xF000#16

/-- The row made of a word's mnemonic and its fixed bits. -/
def rowOf (w : Word) : OpcodeRow := ⟨(decodeInstr w).mnemonic, w &&& groupMask (group w), groupMask (group w)⟩

theorem rowOf_covers (w : Word) : (rowOf w).covers w = true := by simp [OpcodeRow.covers, rowOf]

/-- Clearing the bits below bit `k` of a word leaves its number rounded down. -/
theorem and_shifted_ones_toNat (w : Word) (k : Nat) :
    (w &&& BitVec.allOnes 16 <<< k).toNat = w.toNat / 2 ^ k * 2 ^ k := by
  have hle : w.toNat / 2 ^ k * 2 ^ k ≤ w.toNat := Nat.div_mul_le_self _ _
  rw [← BitVec.shiftLeft_ushiftRight, BitVec.toNat_shiftLeft, BitVec.toNat_ushiftRight, Nat.shiftRight_eq_div_pow,
    Nat.shiftLeft_eq, Nat.mod_eq_of_lt (hle.trans_lt w.isLt)]

theorem and_highMask (w : Word) : w &&& 0xFF00#16 = wordOf (highByte w) 0#8 := by
  apply BitVec.eq_of_toNat_eq
  rw [show 0xFF00#16 = BitVec.allOnes 16 <<< 8 by decide, and_shifted_ones_toNat, wordOf_toNat, highByte_toNat]
  exact Nat.mul_comm _ _

theorem and_groupMask (w : Word) : w &&& 0xF000#16 = groupWordOf (group w) 0#12 := by
  apply BitVec.eq_of_toNat_eq
  rw [show 0xF000#16 = BitVec.allOnes 16 <<< 12 by decide, and_shifted_ones_toNat, groupWordOf_toNat, group_toNat]
  exact Nat.mul_comm _ _

theorem highByte_eq_fieldsByte (w : Word) : highByte w = fieldsByte (group w) (subGroup w) := by
  rw [← highByte_wordOf (fieldsByte _ _) (lowByte w), wordOf_fieldsByte_lowByte]

/-! ### It is in the table, by the group -/

theorem rowOf_mem_of_misc {w : Word} (hg : group w = 11#4) : rowOf w ∈ opcodeRows := by
  have hmask : groupMask (group w) = 0xFF00#16 := if_pos (.inl hg)
  obtain ⟨c, hc⟩ := exists_toMask_eq (subGroup w)
  rw [rowOf, decodeInstr_of_misc hg, hmask, and_highMask, highByte_eq_fieldsByte, hg, ← hc]
  cases c <;> exact List.mem_of_elem_eq_true rfl

theorem rowOf_mem_of_cbSwi {w : Word} (hg : group w = 13#4) : rowOf w ∈ opcodeRows := by
  have hmask : groupMask (group w) = 0xFF00#16 := if_pos (.inr hg)
  obtain ⟨c, hc⟩ := exists_toMask_eq (subGroup w)
  rw [rowOf, decodeInstr_of_cbSwi hg, hmask, and_highMask, highByte_eq_fieldsByte, hg, ← hc]
  cases c <;> exact List.mem_of_elem_eq_true rfl

theorem rowOf_mem_of_unclassified_group {w : Word} (h11 : group w ≠ 11#4) (h13 : group w ≠ 13#4) :
    rowOf w ∈ opcodeRows := by
  have hmask : groupMask (group w) = 0xF000#16 := if_neg (not_or.mpr ⟨h11, h13⟩)
  obtain ⟨c, hg⟩ := exists_toMask_eq (group w)
  rw [rowOf, hmask, and_groupMask, decodeInstr]
  generalize lowTwelve w = low
  rw [← hg] at h11 h13 ⊢
  cases c with
  | lt => exact absurd rfl h11
  | le => exact absurd rfl h13
  | eq | ne | cs | cc | mi | pl | vs | vc | hi | ls | ge | gt | al | nv => exact List.mem_of_elem_eq_true rfl

theorem rowOf_mem (w : Word) : rowOf w ∈ opcodeRows := by
  by_cases h11 : group w = 11#4
  · exact rowOf_mem_of_misc h11
  by_cases h13 : group w = 13#4
  · exact rowOf_mem_of_cbSwi h13
  exact rowOf_mem_of_unclassified_group h11 h13

/-! ### No two rows share a word -/

/-- Two rows that agree on the bits both fix are one row. -/
theorem opcodeRows_eq_of_agree : ∀ r ∈ opcodeRows, ∀ r' ∈ opcodeRows,
    r.pattern &&& r'.mask = r'.pattern &&& r.mask → r = r' := by decide

theorem covers_iff (r : OpcodeRow) (w : Word) : r.covers w = true ↔ w &&& r.mask = r.pattern := beq_iff_eq

/-- A shared word has the bits that either row fixes, so they agree on those that both do. -/
theorem eq_of_covers {r r' : OpcodeRow} {w : Word} (hmem : r ∈ opcodeRows) (hmem' : r' ∈ opcodeRows)
    (h : r.covers w = true) (h' : r'.covers w = true) : r = r' := by
  rw [covers_iff] at h h'
  apply opcodeRows_eq_of_agree r hmem r' hmem'
  rw [← h, ← h', BitVec.and_assoc, BitVec.and_assoc, BitVec.and_comm r.mask]

/-- Settles O18: the row made of the word's own mnemonic and fixed bits is in the table, and no other row shares the word. -/
theorem tableRowsPartitionWords : Obligations.TableRowsPartitionWords :=
  fun w => ⟨rowOf w, rowOf_mem w, rowOf_covers w, rfl,
    fun _ hmem h => eq_of_covers hmem (rowOf_mem w) h (rowOf_covers w)⟩

end Sys2Proof
end

section
/-! PROOFS. How many words have each outcome (95_test_vectors.md section 2.7). The tag of a word's outcome is a function of its
high byte, so a count over the words is 256 times the count over the high bytes. -/

namespace Sys2Proof.Machine

open Sys2Proof.Claims

/-- `dec_tag` of every word with the high byte `h` (10_state.md R32); `none` where the decode raises. -/
def tagOfHighByte (h : Nat) : Option (BitVec 3) :=
  if 0xD0 ≤ h ∧ h ≤ 0xDD then some 0#3
  else if h = 0xDF then some 1#3
  else if h = 0xDE then some 2#3
  else if h / 16 = 11 ∧ h % 16 ∈ reservedSubs then some 3#3
  else none

theorem decPorts_tag (w : Word) :
    (decPorts w (decode w)).out.map DecOut.tag = tagOfHighByte (w.toNat / 256) := by
  have hbranch : (0xD0 ≤ w.toNat / 256 ∧ w.toNat / 256 ≤ 0xDD) ↔ (0xD000 ≤ w.toNat ∧ w.toNat ≤ 0xDDFF) := by omega
  have hinterrupt : w.toNat / 256 = 0xDF ↔ (0xDF00 ≤ w.toNat ∧ w.toNat ≤ 0xDFFF) := by omega
  have hpermanent : w.toNat / 256 = 0xDE ↔ (0xDE00 ≤ w.toNat ∧ w.toNat ≤ 0xDEFF) := by omega
  have hgroup : w.toNat / 256 / 16 = w.toNat / 4096 := Nat.div_div_eq_div_mul _ _ _
  rw [decoderPortsFollowOutcome w, tagOfHighByte]
  simp only [hbranch, hinterrupt, hpermanent, hgroup]
  split_ifs <;> rfl

theorem decPorts_err_beq_one (w : Word) (r : Result Variant) :
    ((decPorts w r).err == 1#1) = ((decPorts w r).out.map DecOut.tag == none) := by
  cases r <;> rfl

/-- A property of the quotient by `b` holds `b` times as often below `b * a` as below `a`. -/
theorem countP_range_mul_div (f : Nat → Bool) {b : Nat} (hb : 0 < b) (a : Nat) :
    (List.range (b * a)).countP (fun n => f (n / b)) = b * (List.range a).countP f := by
  induction a with
  | zero => simp
  | succ a ih =>
    have hblock : (List.range b).countP (fun n => f ((b * a + n) / b)) = (List.range b).countP fun _ => f a := by
      apply List.countP_congr
      intro n hn
      rw [Nat.mul_add_div hb, Nat.div_eq_of_lt (List.mem_range.mp hn), Nat.add_zero]
    have hlast : ((List.range b).countP fun _ => f a) = b * [a].countP f := by
      cases hfa : f a <;> simp [hfa]
    rw [Nat.mul_succ, List.range_add, List.countP_append, ih, List.countP_map, List.range_succ, List.countP_append,
      Nat.mul_add, ← hlast, ← hblock]
    rfl

/-- A count over all words of what depends on the tag alone (30_encoding.md R59). -/
theorem countP_words_eq (f : Option (BitVec 3) → Bool) :
    ((List.range 65536).countP fun n =>
        f ((decPorts (BitVec.ofNat 16 n) (decode (BitVec.ofNat 16 n))).out.map DecOut.tag)) =
      256 * (List.range 256).countP fun h => f (tagOfHighByte h) := by
  rw [← countP_range_mul_div (fun h => f (tagOfHighByte h)) (by decide) 256]
  apply List.countP_congr
  intro n hn
  rw [decPorts_tag, BitVec.toNat_ofNat, Nat.mod_eq_of_lt (List.mem_range.mp hn)]

/-- Settles O19: each count is 256 times a count over the high bytes, evaluated there; a word raises where it
has no tag. -/
theorem wordCountsOfOutcomes : Obligations.WordCountsOfOutcomes := by
  unfold Obligations.WordCountsOfOutcomes
  intro tagCount
  have htag (t : BitVec 3) : tagCount t = 256 * (List.range 256).countP fun h => tagOfHighByte h == some t :=
    countP_words_eq (· == some t)
  simp only [htag, decPorts_err_beq_one, countP_words_eq (· == none)]
  decide +kernel

end Sys2Proof.Machine
end

section
/-! PROOFS. The remaining statements: how a word comes to run, the spec's own words, and two tables. -/

namespace Sys2Proof

open Sys2Proof.Claims Sys2Proof.Machine

/-- Writing a table word as bytes and reading it back loses nothing (20_memory.md R40). -/
theorem decodeTableWord_eq (nbits w : Nat) : decodeTableWord nbits w = some (decodeInstr (tableWord nbits w)) := by
  rw [decodeTableWord, bytesOfWord, decodeBytes, wordOfBytes_lowByte_highByte]

/-- The word placed is the next operation, and what was pending before it is what is pending after it. -/
theorem step_withFetchWord (s : State) (nbits w : Nat) :
    step (s.withFetchWord nbits w) = exec (decodeInstr (tableWord nbits w)) s := step_decode _ s.pending s

/-- Settles O8: the bytes of the word give the instruction of the word, which is what the step runs. -/
theorem fetchedTableWordRuns : Obligations.FetchedTableWordRuns := by
  intro s nbits w i h
  rw [decodeTableWord_eq] at h
  rw [step_withFetchWord, Option.some.inj h]

/-- Settles O9: each word is the one its row's encoding gives for the operand, so it decodes to that row. -/
theorem specWordsDecodeToTheirRows : Obligations.SpecWordsDecodeToTheirRows := by
  and_intros <;> exact decodeInstr_of_encodeInstr rfl

/-- Settles O26: the canonical words are what is encoded, whichever they are, and `Unpredictable` uses neither. -/
theorem encodeEmptyVariants : Obligations.EncodeEmptyVariants :=
  ⟨fun _ _ => ⟨rfl, rfl, rfl⟩, rfl, rfl, encode_unpredictable⟩

/-- Settles O38: `condOfMask` is the inverse of `toMask` on both sides, and no mask below 16 is rejected. -/
theorem maskRoundTrips : Obligations.MaskRoundTrips := by
  refine ⟨fun m h => ⟨_, fromMask_of_lt h, toMask_condOfMask_ofNat h⟩, fun c => ?_⟩
  rw [fromMask_toNat, condOfMask_toMask]

end Sys2Proof
end
